-- ==== Sys2Proof/Word.lean ====
section
/-! DEFINITION. The widths of the block's bytes, fields and registers (spec/00_scope.md R10, spec/10_state.md R22 to R34).
Every quantity of the block is an unsigned bit vector; nothing is signed and nothing is sign-extended (R10). -/

namespace Sys2Proof

/-- A byte: the only access width of the block's spaces (R50). -/
abbrev Byte := BitVec 8

/-- A u16 of the spec: sequence numbers, image identifiers, packet counts, CRC values (R10). -/
abbrev U16 := BitVec 16

/-- A u24 of the spec: payload lengths and byte counts (R26, R29). -/
abbrev U24 := BitVec 24

/-- A u32 of the spec: the frame header (R71). -/
abbrev U32 := BitVec 32

end Sys2Proof
end

