-- ==== Sys2Proof/Config.lean ====
section
/-! DEFINITION. The named parameters of spec/00_scope.md R7, each at the value the rule makes normative. The open
parameters of spec/92_eei_decisions.md (READ_ALL, ENTRY_POLL, RX_CAPACITY, CRC_XOROUT) stay at the spec's own decisions and
shape the rules themselves (assumption log 19). -/

namespace Sys2Proof.Config

/-- MAGIC, the frame header constant (R7, R71). -/
abbrev magic : U32 := 0xAA55A55A#32

/-- HDR_LEN, the size of the header field in bytes (R7, R71). -/
abbrev hdrLen : Nat := 4

/-- FRAME_LEN, the wire size of every frame in bytes (R7, R70). -/
abbrev frameLen : Nat := 250

/-- PAYLOAD_LEN, also CHUNK: the padded payload field, and the chunk size (R7). -/
abbrev chunk : Nat := 240

/-- CRC_COVER, the bytes the CRC covers: offsets 0 to 247 (R7, R76). -/
abbrev crcCover : Nat := 248

/-- CRC_POLY, the feedback constant of the right-shifting register (R7, R100). -/
abbrev crcPoly : U16 := 0xA001#16

/-- CRC_INIT, the register's initial value (R7, R100). -/
abbrev crcInit : U16 := 0xFFFF#16

/-- RX_THRESHOLD, the least number of available bytes at which a poll reads (R7, R143). -/
abbrev rxThreshold : Nat := 11

/-- PREFIX_LEN, the bytes of a reply that are examined (R7, R81). -/
abbrev prefixLen : Nat := 7

/-- POLL_PERIOD in milliseconds: one Tick (R7, R216). -/
abbrev pollPeriodMs : Nat := 10

/-- TIMEOUT_DATA in milliseconds (R7). -/
abbrev timeoutDataMs : Nat := 1000

/-- TIMEOUT_CTRL in milliseconds (R7). -/
abbrev timeoutCtrlMs : Nat := 2000

/-- POLLS_DATA, the wait limit in ticks of a DATA attempt: 1 s of 10 ms ticks (R7, R141). -/
abbrev pollsData : Nat := 100

/-- POLLS_CTRL, the wait limit in ticks of START and of END: 2 s of 10 ms ticks (R7, R141). -/
abbrev pollsCtrl : Nat := 200

/-- RETRIES_DATA, the resends allowed per DATA frame after the first send (R7, R141). -/
abbrev retriesData : Nat := 3

/-- RETRIES_CTRL, the resends allowed for START and END (R7, R141). -/
abbrev retriesCtrl : Nat := 0

/-- MAX_PACKETS, the largest packet count the 16-bit field holds (R7). -/
abbrev maxPackets : Nat := 65535

/-- MAX_PAYLOAD, the longest payload a session accepts: 65535 chunks of 240 bytes (R7, R170). -/
abbrev maxPayload : Nat := 15728400

end Sys2Proof.Config
end

