-- ==== Sys2Proof/Syntax.lean ====
section
/-! DEFINITION. The operations of the block: one constructor of `Instr` for each row of spec/opcode_table.json, and the
shapes in which operations are presented (a frame on the link, a host request). -/

namespace Sys2Proof

/-- Which way a frame crosses the link (R74, the column "direction"; the rows' source field "direction"). START, DATA and
END are frames the sequencer sends; received as a reply they are "other content" (R180 to R182), so these three rows take
a direction. ACK and NACK are only ever received (R183, R184). Assumption log 3. -/
inductive Direction where
  /-- From the block to the peer: the sequencer sends the frame. -/
  | toPeer
  /-- From the peer to the block: the frame arrives as a reply. -/
  | toBlock
deriving DecidableEq, Repr

/-- The cause an attempt failed with: the outcome of its wait, Nack or Timeout (R148). -/
inductive FailCause where
  | nack
  | timeout
deriving DecidableEq, Repr

/-- The operations of the block, one constructor per row of spec/opcode_table.json. The operands of the five wire rows are
the fields of the frame (R70), those of the other rows the operands the row's rule names. -/
inductive Instr where
  /-- START, command 1 (R180). -/
  | startFrame (dir : Direction) (sequence : U16) (length : Byte) (payload : List Byte) (crc : U16)
  /-- DATA, command 2 (R181). -/
  | dataFrame (dir : Direction) (sequence : U16) (length : Byte) (payload : List Byte) (crc : U16)
  /-- END, command 3 (R182). -/
  | endFrame (dir : Direction) (sequence : U16) (length : Byte) (payload : List Byte) (crc : U16)
  /-- ACK, command 4 (R183). -/
  | ackFrame (sequence : U16) (length : Byte) (payload : List Byte) (crc : U16)
  /-- NACK, command 5 (R184). -/
  | nackFrame (sequence : U16) (length : Byte) (payload : List Byte) (crc : U16)
  /-- CRC16 of a byte string (R104). -/
  | crc16 (m : List Byte)
  /-- ENCODE a frame (R121). -/
  | encode (command : Byte) (sequence : U16) (body : List Byte)
  /-- DECODE a byte string (R125). -/
  | decode (w : List Byte)
  /-- SEND_IMAGE (R170): the PAYLOAD argument is given as cells, an address below `payloadLen` with no cell holding 0. -/
  | sendImage (imageId : U16) (payloadLen : Nat) (payload : List Host.Cell)
  /-- CRC_BIT (R101). -/
  | crcBit (d : Bool)
  /-- CRC_BYTE (R102). -/
  | crcByte (b : Byte)
  /-- PARSE_PREFIX (R142). -/
  | parsePrefix (buf : List Byte) (expected : U16)
  /-- POLL (R143). -/
  | poll
  /-- EMIT (R144). -/
  | emit
  /-- WAIT_FOR_ACK (R145). -/
  | waitForAck
  /-- TICK (R146). -/
  | tick
  /-- ON_ACK (R147). -/
  | onAck
  /-- SEND_CONFIRM, also ATTEMPT_FAILED(cause) (R148). -/
  | sendConfirm (cause : FailCause)
  /-- FAIL(cause) (R149). -/
  | fail (cause : FailCause)
  /-- SEND_DATA(k) (R173). -/
  | sendData (k : U16)
  /-- SEND_END (R175). -/
  | sendEnd
deriving DecidableEq, Repr

/-- A `HostReq` event as presented (R9, R83): the 2-bit selector, and the operands passed by value with the request (R50).
An operation reads the operands its rule names and no others (assumption log 4). -/
structure HostRequest where
  /-- The selector: 0 CRC16, 1 ENCODE, 2 DECODE, 3 SEND_IMAGE. -/
  op : BitVec 2
  /-- The command argument of ENCODE. -/
  command : Byte := 0
  /-- The sequence argument of ENCODE. -/
  sequence : U16 := 0
  /-- The byte string: `m` of CRC16, `body` of ENCODE, `w` of DECODE. -/
  bytes : List Byte := []
  /-- The image identifier of SEND_IMAGE. -/
  imageId : U16 := 0
  /-- The payload length of SEND_IMAGE, a natural number (U15). -/
  payloadLen : Nat := 0
  /-- The PAYLOAD argument of SEND_IMAGE. -/
  payload : List Host.Cell := []
deriving DecidableEq, Repr

/-- An operation in encoded form: a frame's bytes on one of the link's two directions, or a host request (R83: the rows of
format INTERNAL have no encoding). -/
inductive Encoded where
  | frame (dir : Direction) (bytes : List Byte)
  | request (r : HostRequest)
deriving DecidableEq, Repr

/-- Why an encoded form is no operation, by name. -/
inductive DecodeError where
  /-- A frame is exactly 250 bytes (R70, R85). -/
  | frameSize (found : Nat)
  /-- A frame opens with the header constant (R71). -/
  | frameHeader (found : U32)
  /-- The command byte is 0 or 6..255: no command of the table (R84). -/
  | frameCommand (found : Byte)
  /-- The sequencer never sends ACK or NACK (R74, R183, R184). -/
  | neverSent (command : Byte)
deriving DecidableEq, Repr

end Sys2Proof
end

