-- ==== Sys2Proof/Machine/Operands.lean ====
section
/-! DEFINITION. Assembly of the fields of a frame and of a reply (spec/30_encoding.md R82, spec/00_scope.md R10): bytes to
values and values to bytes, all little-endian (spec/20_memory.md R58), and the command codes (R74). -/

namespace Sys2Proof.Machine

/-- The command code of START (R74). -/
def cmdStart : Byte := 1#8
/-- The command code of DATA (R74). -/
def cmdData : Byte := 2#8
/-- The command code of END (R74). -/
def cmdEnd : Byte := 3#8
/-- The command code of ACK (R74). -/
def cmdAck : Byte := 4#8
/-- The command code of NACK (R74). -/
def cmdNack : Byte := 5#8

/-- The command byte names one of the five commands (R74, R121). -/
def isCommand (c : Byte) : Bool := decide (1 ≤ c.toNat ∧ c.toNat ≤ 5)

/-- The length byte of a frame the sequencer sends: START 4 (R77), DATA 1..240 (R78), END 0 (R79). With any other, and with
any other command, the sequencer emits no frame (R84, R74). -/
def lengthSent (command length : Byte) : Bool :=
  if command = cmdStart then decide (length.toNat = 4)
  else if command = cmdData then decide (1 ≤ length.toNat ∧ length.toNat ≤ Config.chunk)
  else if command = cmdEnd then decide (length.toNat = 0)
  else false

/-- Bits 7..0 of a u16 (R10). -/
def lowByte (v : U16) : Byte := v.extractLsb' 0 8
/-- Bits 15..8 of a u16 (R10). -/
def highByte (v : U16) : Byte := v.extractLsb' 8 8

/-- LE16: a u16 as its two bytes, the low one first (R10). -/
def bytesLE16 (v : U16) : List Byte := [lowByte v, highByte v]

/-- LE32: a u32 as its four bytes, the low one first (R10). -/
def bytesLE32 (v : U32) : List Byte :=
  [v.extractLsb' 0 8, v.extractLsb' 8 8, v.extractLsb' 16 8, v.extractLsb' 24 8]

/-- le16: the u16 of two bytes, the low one first: `b[0] + 256*b[1]` (R10). -/
def le16 (lo hi : Byte) : U16 := hi ++ lo

/-- le32: the u32 of four bytes, the low one first (R10). -/
def le32 (b0 b1 b2 b3 : Byte) : U32 := b3 ++ b2 ++ b1 ++ b0

/-- The byte at an offset of a byte string; every use is at an offset below the string's length. -/
def byteAt (b : List Byte) (i : Nat) : Byte := b.getD i 0

/-- The u16 at two offsets from `i` of a byte string (R82). -/
def u16At (b : List Byte) (i : Nat) : U16 := le16 (byteAt b i) (byteAt b (i + 1))

/-- The first four bytes of a byte string as one u32: the header field of a frame or of a reply (R71, R82). -/
def headerOf (b : List Byte) : U32 := le32 (byteAt b 0) (byteAt b 1) (byteAt b 2) (byteAt b 3)

/-- The first 248 bytes of a frame for given field values, the payload field as given (R70, R82). -/
def frameCovered (command : Byte) (sequence : U16) (length : Byte) (payload : List Byte) : List Byte :=
  bytesLE32 Config.magic ++ [command] ++ bytesLE16 sequence ++ [length] ++ payload

/-- The 250 bytes of a frame for given field values (R70, R82). -/
def frameImage (command : Byte) (sequence : U16) (length : Byte) (payload : List Byte) (crc : U16) : List Byte :=
  frameCovered command sequence length payload ++ bytesLE16 crc

/-- A body followed by zeros to 240 bytes: the padded payload (R75). -/
def padBody (body : List Byte) : List Byte := body ++ List.replicate (Config.chunk - body.length) 0

/-- The payload field of a 250-byte frame: offsets 8 to 247 (R70). -/
def payloadField (w : List Byte) : List Byte := (w.drop 8).take Config.chunk

/-- The START body: image identifier, then packet count, both little-endian (R77). -/
def startBody (imageId totalPackets : U16) : List Byte := bytesLE16 imageId ++ bytesLE16 totalPackets

/-- `ceil_div(payload_len, 240)`, exact (R27, R177). -/
def packetsFor (payloadLen : Nat) : Nat := (payloadLen + 239) / Config.chunk

end Sys2Proof.Machine
end

