-- ==== Sys2Proof/Machine/State.lean ====
section
/-! DEFINITION. The machine's state as plain data: every register of spec/10_state.md R22 to R34, the three things outside
the block that it observes (R36), the value the last operation returned (R9) and the environment's events not yet presented;
the reasons a step can stop; and the state after reset (R38). -/

namespace Sys2Proof.Machine

/-- The sequencer states (R22). Codes 6 and 7 are never written and have no constructor (U5). -/
inductive Fsm where
  | idle
  | awaitStartAck
  | awaitDataAck
  | awaitEndAck
  | done
  | failed
deriving DecidableEq, Repr

/-- The stages of a session: the frame whose wait is running, or the tag of a failure (R34, R141). -/
inductive Stage where
  | start
  | data
  | final
deriving DecidableEq, Repr

/-- The outcomes of an ACK wait (R12, R145). -/
inductive WaitOutcome where
  | ack
  | nack
  | timeout
deriving DecidableEq, Repr

/-- What the prefix parse of a reply answers (R142); `nack` carries the sequence field of the NACK. -/
inductive PrefixResult where
  | ack
  | nack (got : U16)
  | other
deriving DecidableEq, Repr

/-- A Frame value (R120): the fields of a wire image, the payload as its 240 bytes. -/
structure Frame where
  header : U32
  command : Byte
  sequence : U16
  length : Byte
  payload : List Byte
  crc : U16
deriving DecidableEq, Repr

/-- The error kinds with the values they record (R200 to R210). -/
inductive ErrorKind where
  | payloadTooLarge (length : Nat)
  | badHeader (found : U32)
  | checksumMismatch (computed received : U16)
  | ackTimeout
  | nackReceived
  | transferAborted (stage : Stage) (index : U16) (cause : FailCause)
  | badSize (length : Nat)
  | sessionTooLarge
  | busy
deriving DecidableEq, Repr

/-- What an operation hands back to whoever invoked it (R9, R35, R142, R145, R170). -/
inductive Returned where
  /-- Nothing has been returned yet. -/
  | nothing
  /-- The result of CRC16 (R104). -/
  | crc (value : U16)
  /-- The 250 bytes of ENCODE (R121). -/
  | bytes (f : List Byte)
  /-- The Frame of DECODE (R125). -/
  | frame (f : Frame)
  /-- An error kind: of ENCODE or DECODE, or a SEND_IMAGE turned away (R35). -/
  | error (e : ErrorKind)
  /-- SEND_IMAGE was accepted (R170). -/
  | accepted
  /-- The result of PARSE_PREFIX (R142). -/
  | parsed (p : PrefixResult)
  /-- The outcome of WAIT_FOR_ACK, or none while the wait is still running (R145). -/
  | waited (o : Option WaitOutcome)
deriving DecidableEq, Repr

/-- The block's output events, in the order emitted (R9, R53, R153). -/
inductive Output where
  /-- One whole frame appended to the TX stream. -/
  | txFrame (bytes : List Byte)
  /-- The NACK-for-sequence event: the awaited sequence and the NACK's own. -/
  | logNack (expected got : U16)
deriving DecidableEq, Repr

/-- What the environment presents (R9, R57, R230). -/
inductive Event where
  /-- The host asks for an operation. -/
  | hostReq (r : HostRequest)
  /-- One poll period has elapsed. -/
  | tick
  /-- The link appends bytes to the RX FIFO. -/
  | rxArrive (bytes : List Byte)
  /-- Bytes, a frame as a rule, reach the block and the next tick elapses: an arrival and a tick in one event (assumption
  log 2). -/
  | frameAtTick (bytes : List Byte)
  /-- Hardware reset (R230, R231). -/
  | reset
deriving DecidableEq, Repr

/-- A sparse byte space: cells in canonical form, an unlisted address holding 0 (R50; assumption log 8). -/
abbrev Memory := List Host.Cell

/-- The state of the block and of what it observes. Plain data. -/
@[ext]
structure State where
  /-- The sequencer state, the block's program counter (R22). -/
  fsm : Fsm
  /-- The index of the chunk in flight, or the number of chunks acknowledged (R23). -/
  chunkIdx : U16
  /-- The sequence counter (R24). -/
  seq : U16
  /-- The image identifier of the session (R25). -/
  imageId : U16
  /-- The payload length of the session (R26). -/
  payloadLen : U24
  /-- The packet count of the session (R27). -/
  totalPackets : U16
  /-- The body length of the frame in TXF (R28). -/
  curLen : Byte
  /-- The sent-byte counter: payload bytes acknowledged (R29). -/
  sentBytes : U24
  /-- The resends already made of the frame in flight (R30). -/
  retryCnt : BitVec 2
  /-- The ticks seen since the last emission (R31). -/
  tickCnt : BitVec 8
  /-- last_outcome; none is NONE (R34). -/
  lastOutcome : Option WaitOutcome
  /-- fail_stage; none is NONE (R34). -/
  failStage : Option Stage
  /-- fail_index (R34). -/
  failIndex : U16
  /-- fail_cause; none is NONE (R34). -/
  failCause : Option FailCause
  /-- The frame buffer TXF (R32). -/
  txf : Vector Byte 250
  /-- The shift register of the CRC unit (R33). -/
  crc : U16
  /-- The RX FIFO, oldest byte first (R36, R50). -/
  rxFifo : List Byte
  /-- The output events, oldest first; the TX stream is the bytes of its frames (R36, R53; assumption log 13). -/
  outputs : List Output
  /-- The PAYLOAD space as cells in canonical form (R36, R50; assumption log 8). -/
  payload : Memory
  /-- The value the last operation returned (R9; the model's own field, assumption log 12). -/
  answer : Returned
  /-- The environment's events not yet presented, oldest first (the model's own field, assumption log 1). -/
  pending : List Event
deriving DecidableEq, Repr

/-- Why the machine stops. -/
inductive Fault where
  /-- A read of PAYLOAD outside `[0, payload_len)` (R51, U8), raised by SEND_DATA and what leads to it. Safe: unreachable
  under the rules, and the spec names no effect. -/
  | payloadOutOfRange (address : Nat)
deriving DecidableEq, Repr

/-- Why an operation has no next state, though the machine has not failed. -/
inductive Refusal where
  /-- An instruction with no meaning in this model, raised by an arm of `exec`. Safe: nothing is claimed of it. -/
  | notModelled (mnemonic : String)
  /-- ENCODE of a command outside 1..5: the request has no result (R121, U1). Raised by ENCODE. Safe. -/
  | commandOutsideEnum (command : Byte)
  /-- POLL, EMIT, WAIT_FOR_ACK, ON_ACK, SEND_CONFIRM or FAIL outside an awaiting state: the rules' stated precondition
  (R143, R144) and the domain of limit, budget and stage (R141). Safe. -/
  | notAwaiting (fsm : Fsm)
  /-- PARSE_PREFIX of fewer than 7 bytes: the rule's operand range (R142). Safe. -/
  | prefixTooShort (length : Nat)
  /-- SEND_DATA of a chunk the session does not have: the rule's operand range (R173). Safe. -/
  | noSuchChunk (k : U16)
  /-- A START, DATA or END to send whose length byte disagrees with its command or is 241..255: the sequencer never emits
  such a frame (R84, R77 to R79). Raised by these three. Safe. -/
  | lengthNeverSent (command length : Byte)
deriving DecidableEq, Repr

/-- The state after reset (R38): IDLE, every counter and status field 0 or NONE. TXF and crc are unspecified there and zero
here (assumption logs 5 and 6); the RX FIFO, the TX stream and PAYLOAD are not the block's and empty here (log 16). -/
def State.reset : State where
  fsm := .idle
  chunkIdx := 0
  seq := 0
  imageId := 0
  payloadLen := 0
  totalPackets := 0
  curLen := 0
  sentBytes := 0
  retryCnt := 0
  tickCnt := 0
  lastOutcome := none
  failStage := none
  failIndex := 0
  failCause := none
  txf := Vector.replicate 250 0
  crc := 0
  rxFifo := []
  outputs := []
  payload := []
  answer := .nothing
  pending := []

end Sys2Proof.Machine
end

