-- ==== Sys2Proof/Machine/Flags.lean ====
section
/-! DEFINITION. The status of the block as functions of its registers (spec/10_state.md R34), the numeric codes
(R22, R34, spec/60_exceptions.md R210), the table of awaiting states (spec/42_transfer_fsm.md R141), and what the host reads
of a session (spec/43_session.md R178). -/

namespace Sys2Proof.Machine

/-- The 3-bit code of a sequencer state (R22). -/
def Fsm.code : Fsm → BitVec 3
  | .idle => 0
  | .awaitStartAck => 1
  | .awaitDataAck => 2
  | .awaitEndAck => 3
  | .done => 4
  | .failed => 5

/-- The stage whose wait is running: defined in the three awaiting states (R22, R141). -/
def Fsm.stage? : Fsm → Option Stage
  | .awaitStartAck => some .start
  | .awaitDataAck => some .data
  | .awaitEndAck => some .final
  | .idle => none
  | .done => none
  | .failed => none

/-- The awaiting state of a stage (R141). -/
def Stage.fsm : Stage → Fsm
  | .start => .awaitStartAck
  | .data => .awaitDataAck
  | .final => .awaitEndAck

/-- busy: an awaiting state (R34). -/
def Fsm.busy (f : Fsm) : Bool := f.stage?.isSome

/-- done: the last session ended in Success (R34). -/
def Fsm.isDone (f : Fsm) : Bool := f == .done

/-- failed: the last session ended in Failure (R34). -/
def Fsm.isFailed (f : Fsm) : Bool := f == .failed

/-- `limit(fsm)`, the wait limit in ticks (R141). -/
def Stage.limit : Stage → Nat
  | .start => Config.pollsCtrl
  | .data => Config.pollsData
  | .final => Config.pollsCtrl

/-- `budget(fsm)`, the resends allowed (R141). -/
def Stage.budget : Stage → Nat
  | .start => Config.retriesCtrl
  | .data => Config.retriesData
  | .final => Config.retriesCtrl

/-- The command byte of the frame a stage sends (R141, R74). -/
def Stage.command : Stage → Byte
  | .start => cmdStart
  | .data => cmdData
  | .final => cmdEnd

/-- The 2-bit code of fail_stage (R34). -/
def failStageCode : Option Stage → BitVec 2
  | none => 0
  | some .start => 1
  | some .data => 2
  | some .final => 3

/-- The 2-bit code of last_outcome (R34). -/
def lastOutcomeCode : Option WaitOutcome → BitVec 2
  | none => 0
  | some .ack => 1
  | some .nack => 2
  | some .timeout => 3

/-- The 2-bit code of fail_cause (R34). -/
def failCauseCode : Option FailCause → BitVec 2
  | none => 0
  | some .nack => 2
  | some .timeout => 3

/-- The code of an error kind (R210); 0 is none. -/
def ErrorKind.code : ErrorKind → Nat
  | .payloadTooLarge _ => 1
  | .badHeader _ => 2
  | .checksumMismatch _ _ => 3
  | .ackTimeout => 4
  | .nackReceived => 5
  | .transferAborted _ _ _ => 6
  | .badSize _ => 7
  | .sessionTooLarge => 8
  | .busy => 9

/-- The error kind of a wait's outcome (R204, R205). -/
def WaitOutcome.error? : WaitOutcome → Option ErrorKind
  | .ack => none
  | .nack => some .nackReceived
  | .timeout => some .ackTimeout

/-- The outcome a failed attempt ended with, as fail_cause records it (R34, R148). -/
def FailCause.outcome : FailCause → WaitOutcome
  | .nack => .nack
  | .timeout => .timeout

/-- The result of the session the registers describe (R178, R206). -/
inductive SessionResult where
  /-- No session has been started since reset. -/
  | noSession
  /-- The session is running and has no result. -/
  | running
  | success
  /-- TransferAborted, with its tag as the failure record holds it. -/
  | failure (stage : Option Stage) (index : U16) (cause : Option FailCause)
deriving DecidableEq, Repr

/-- What the host learns by reading fsm and the failure record (R178, R206). -/
def State.sessionResult (s : State) : SessionResult :=
  match s.fsm with
  | .idle => .noSession
  | .awaitStartAck => .running
  | .awaitDataAck => .running
  | .awaitEndAck => .running
  | .done => .success
  | .failed => .failure s.failStage s.failIndex s.failCause

/-- The bytes of an output event on the TX stream (R36, R53). -/
def Output.txBytes : Output → List Byte
  | .txFrame f => f
  | .logNack _ _ => []

/-- The error kind a session surfaces, if it failed: TransferAborted with its tag (R206). -/
def SessionResult.error? : SessionResult → Option ErrorKind
  | .failure (some stage) index (some cause) => some (.transferAborted stage index cause)
  | _ => none

/-- The TX stream: every byte emitted, in order (R36, R62). -/
def State.txStream (s : State) : List Byte := s.outputs.flatMap Output.txBytes

/-- The frames among output events, in order (R9). -/
def framesOf (os : List Output) : List (List Byte) :=
  os.filterMap fun o => match o with
    | .txFrame f => some f
    | .logNack _ _ => none

end Sys2Proof.Machine
end

