-- ==== Sys2Proof/Machine/CrcUnit.lean ====
section
/-! DEFINITION. The CRC-16 unit as functions on its register (spec/40_crc16.md R100 to R110). -/

namespace Sys2Proof.Machine

/-- The feedback bit of one CRC step: the register's bit 0 and the data bit, exclusive or (R101). -/
def crcFeedback (crc : U16) (d : Bool) : Bool := crc.getLsbD 0 != d

/-- CRC_BIT: shift right by one, and the feedback constant in if the feedback bit is 1 (R101). -/
def crcBitStep (crc : U16) (d : Bool) : U16 :=
  if crcFeedback crc d then (crc >>> 1) ^^^ Config.crcPoly else crc >>> 1

/-- The bits of a byte, bit 0 first (R102). -/
def bitsOf (b : Byte) : List Bool :=
  [b.getLsbD 0, b.getLsbD 1, b.getLsbD 2, b.getLsbD 3, b.getLsbD 4, b.getLsbD 5, b.getLsbD 6, b.getLsbD 7]

/-- CRC_BYTE: eight CRC_BIT steps, bit 0 first (R102). -/
def crcByteStep (crc : U16) (b : Byte) : U16 := (bitsOf b).foldl crcBitStep crc

/-- One conditional shift of the byte-at-once form (R103). -/
def crcShift (crc : U16) : U16 :=
  if crc.getLsbD 0 then (crc >>> 1) ^^^ Config.crcPoly else crc >>> 1

/-- The byte-at-once form of CRC_BYTE: the byte into the low 8 bits, then eight conditional shifts (R103). -/
def crcByteAtOnce (crc : U16) (b : Byte) : U16 :=
  crcShift (crcShift (crcShift (crcShift (crcShift (crcShift (crcShift (crcShift (crc ^^^ b.setWidth 16))))))))

/-- CRC_BYTE for each byte of a string in index order (R104, R110). -/
def crcStream (crc : U16) (m : List Byte) : U16 := m.foldl crcByteStep crc

/-- CRC16: from the initial value through every byte; the register itself is the result (R104). -/
def crc16 (m : List Byte) : U16 := crcStream Config.crcInit m

/-- The validator: the CRC of the first 248 bytes is the trailing two bytes (R107). -/
def crcValid (f : List Byte) : Bool := crc16 (f.take Config.crcCover) == u16At f Config.crcCover

end Sys2Proof.Machine
end

