-- ==== Sys2Proof/Machine/FrameCodec.lean ====
section
/-! DEFINITION. The Frame Codec as functions (spec/41_frame_codec.md): the frame an accepted ENCODE builds, the checks of
DECODE, the views of a Frame value; and the prefix parse of a reply (spec/42_transfer_fsm.md R142). -/

namespace Sys2Proof.Machine

/-- The length byte the encoder writes: the number of body bytes (R73, R121). -/
def lengthByte (body : List Byte) : Byte := BitVec.ofNat 8 body.length

/-- The first 248 bytes of the frame of a command, a sequence and a body: the CRC's coverage (R75, R76). -/
def coveredBytes (command : Byte) (sequence : U16) (body : List Byte) : List Byte :=
  frameCovered command sequence (lengthByte body) (padBody body)

/-- The 250 bytes ENCODE builds for a body of at most 240 bytes (R121). -/
def encodeFrame (command : Byte) (sequence : U16) (body : List Byte) : List Byte :=
  coveredBytes command sequence body ++ bytesLE16 (crc16 (coveredBytes command sequence body))

/-- The fields of a 250-byte string (R82, R125). -/
def frameOf (w : List Byte) : Frame where
  header := headerOf w
  command := byteAt w 4
  sequence := u16At w 5
  length := byteAt w 7
  payload := payloadField w
  crc := u16At w Config.crcCover

/-- DECODE: size, then header, then CRC; the first failing check alone is reported (R125, R212). -/
def decodeFrame (w : List Byte) : Except ErrorKind Frame :=
  if w.length = Config.frameLen then
    if headerOf w = Config.magic then
      if crcValid w then .ok (frameOf w)
      else .error (.checksumMismatch (crc16 (w.take Config.crcCover)) (u16At w Config.crcCover))
    else .error (.badHeader (headerOf w))
  else .error (.badSize w.length)

/-- The body of a Frame, defined only when the length is at most 240 (R120, U2). -/
def Frame.body? (f : Frame) : Option (List Byte) :=
  if f.length.toNat ≤ Config.chunk then some (f.payload.take f.length.toNat) else none

/-- PARSE_PREFIX: the header, the command and the sequence of the first 7 bytes, ACK tested before NACK (R142). -/
def prefixOf (buf : List Byte) (expected : U16) : PrefixResult :=
  if headerOf buf = Config.magic ∧ byteAt buf 4 = cmdAck ∧ u16At buf 5 = expected then .ack
  else if headerOf buf = Config.magic ∧ byteAt buf 4 = cmdNack then .nack (u16At buf 5)
  else .other

/-- The outcome a parsed reply gives to the wait, if any (R143). -/
def PrefixResult.outcome? : PrefixResult → Option WaitOutcome
  | .ack => some .ack
  | .nack _ => some .nack
  | .other => none

end Sys2Proof.Machine
end

