-- ==== Sys2Proof/Machine/Ops.lean ====
section
/-! DEFINITION. The named operations over State that the meanings share: the PAYLOAD space, the link's primitives, the
register updates, the failure entry (the block's exception) and the session restart (its return), and the sequencer's
steps POLL, EMIT, ON_ACK, ATTEMPT_FAILED and TICK (spec/20_memory.md, spec/42_transfer_fsm.md, spec/43_session.md). -/

namespace Sys2Proof.Machine

/-! The PAYLOAD space (R50, R51) -/

/-- The byte at an address; an unlisted address holds 0 (assumption log 8). -/
def Memory.read : Memory → Nat → Byte
  | [], _ => 0
  | c :: rest, a => if c.1 = a then c.2 else Memory.read rest a

/-- Store a byte, keeping the canonical form: storing 0 removes the cell (assumption log 8). -/
def Memory.write : Memory → Nat → Byte → Memory
  | [], a, v => if v = 0#8 then [] else [(a, v)]
  | c :: rest, a, v =>
    if a < c.1 then (if v = 0#8 then c :: rest else (a, v) :: c :: rest)
    else if a = c.1 then (if v = 0#8 then rest else (a, v) :: rest)
    else c :: Memory.write rest a v

/-- The canonical form: addresses strictly rising, no cell holding 0 (assumption log 8). -/
def Memory.wf : Memory → Bool
  | [] => true
  | [c] => decide (c.2 ≠ 0#8)
  | c :: d :: rest => decide (c.2 ≠ 0#8 ∧ c.1 < d.1) && Memory.wf (d :: rest)

/-- The PAYLOAD space of a SEND_IMAGE argument: its cells below the payload length (R61, assumption log 8). -/
def Memory.ofCells (payloadLen : Nat) (cells : List Host.Cell) : Memory :=
  cells.foldr (fun c m => if c.1 < payloadLen then Memory.write m c.1 c.2 else m) []

/-- One byte of the PAYLOAD space; no byte outside `[0, payload_len)` (R50, R51). -/
def State.payloadByte? (s : State) (a : Nat) : Option Byte :=
  if a < s.payloadLen.toNat then some (Memory.read s.payload a) else none

/-- The length of chunk `k`: `min(240, payload_len - 240*k)` (R173). -/
def State.chunkLen (s : State) (k : Nat) : Nat := min Config.chunk (s.payloadLen.toNat - Config.chunk * k)

/-- The bytes of chunk `k`: PAYLOAD addresses from `240*k`, `chunkLen` of them (R173). -/
def State.chunkBytes (s : State) (k : Nat) : List Byte :=
  (List.range (s.chunkLen k)).map fun i => Memory.read s.payload (Config.chunk * k + i)

/-! The link (R52 to R57) -/

/-- RxArrive: bytes appended to the back of the RX FIFO (R57). -/
def State.rxArrive (s : State) (b : List Byte) : State := { s with rxFifo := s.rxFifo ++ b }

/-- RxAvail: the number of bytes in the RX FIFO (R54). -/
def State.rxAvail (s : State) : Nat := s.rxFifo.length

/-- What RxRead(n) returns: the oldest `n` bytes in arrival order (R55). -/
def State.rxFront (s : State) (n : Nat) : List Byte := s.rxFifo.take n

/-- What RxRead(n) leaves: the FIFO without its oldest `n` bytes (R55). -/
def State.rxDrop (s : State) (n : Nat) : State := { s with rxFifo := s.rxFifo.drop n }

/-- TxWrite of TXF: the 250 bytes of the frame buffer enter the TX stream in one step (R53). -/
def State.txWrite (s : State) : State := { s with outputs := s.outputs ++ [.txFrame s.txf.toList] }

/-- The output event LogNack (R153). -/
def State.logNack (s : State) (expected got : U16) : State :=
  { s with outputs := s.outputs ++ [.logNack expected got] }

/-! Register updates -/

/-- Hand a value back to whoever invoked the operation (R9). -/
def State.returning (s : State) (a : Returned) : State := { s with answer := a }

/-- Write fsm (R22). -/
def State.setFsm (s : State) (f : Fsm) : State := { s with fsm := f }

/-- Write the CRC register (R33). -/
def State.setCrc (s : State) (v : U16) : State := { s with crc := v }

/-- The wait's clock at zero (R144). -/
def State.startWait (s : State) : State := { s with tickCnt := 0 }

/-- One more tick of the wait (R146). -/
def State.countTick (s : State) : State := { s with tickCnt := s.tickCnt + 1 }

/-- One more resend of the frame in flight (R148). -/
def State.countRetry (s : State) : State := { s with retryCnt := s.retryCnt + 1 }

/-- Record the outcome of a finished wait (R34). -/
def State.noteOutcome (s : State) (o : WaitOutcome) : State := { s with lastOutcome := some o }

/-- The DATA frame in flight is confirmed: its bytes are counted, and its chunk (R174). -/
def State.confirmChunk (s : State) : State :=
  { s with sentBytes := s.sentBytes + s.curLen.setWidth 24, chunkIdx := s.chunkIdx + 1 }

/-- A byte string as the content of the 250-byte frame buffer (R32). -/
def frameBuffer (f : List Byte) : Vector Byte 250 :=
  ⟨(f.take 250 ++ List.replicate (250 - f.length) 0).toArray, by simp; omega⟩

/-- Build the frame of a stage and put it in flight: seq, TXF, the CRC register that computed its trailer, cur_len,
retry_cnt and fsm (R123, R171, R173, R175). -/
def State.launch (s : State) (st : Stage) (sequence : U16) (body : List Byte) : State :=
  { s with
    seq := sequence
    txf := frameBuffer (encodeFrame st.command sequence body)
    crc := crc16 (coveredBytes st.command sequence body)
    curLen := lengthByte body
    retryCnt := 0
    fsm := st.fsm }

/-- The session registers of an accepted SEND_IMAGE, before its START frame is built; the block's restart (R171, R214). -/
def State.beginSession (s : State) (imageId : U16) (payloadLen : Nat) (cells : List Host.Cell) : State :=
  { s with
    seq := 0
    imageId := imageId
    payloadLen := BitVec.ofNat 24 payloadLen
    totalPackets := BitVec.ofNat 16 (packetsFor payloadLen)
    chunkIdx := 0
    sentBytes := 0
    retryCnt := 0
    lastOutcome := none
    failStage := none
    failIndex := 0
    failCause := none
    payload := Memory.ofCells payloadLen cells }

/-- FAIL's writes: the failure entry, the block's "trap entry" (R149, R213). `st` is `stage(fsm)`. -/
def State.enterFailed (s : State) (st : Stage) (cause : FailCause) : State :=
  { s with
    failStage := some st
    failIndex := if st = .data then s.seq else 0
    failCause := some cause
    fsm := .failed }

/-- Hardware reset in any state: the registers at their reset values, the link, PAYLOAD and what the environment has yet to
present untouched (R38, R230, R231; assumption log 17). -/
def State.hardReset (s : State) : State :=
  { State.reset with rxFifo := s.rxFifo, outputs := s.outputs, payload := s.payload, pending := s.pending }

/-! The sequencer's steps

POLL reaches EMIT and EMIT reaches POLL again (R143, R144); a poll that reads bytes empties the FIFO, so the chain is short
(R151). The steps are written over the poll that they end with, and `poll` closes the chain. -/

/-- The three outcomes of a step. -/
abbrev Result := Host.Outcome State Fault Refusal

/-- Go on from a next state; a fault or a refusal stands. -/
def andThen (r : Result) (k : State → Result) : Result :=
  match r with
  | .next s => k s
  | .fault f => .fault f
  | .refused q => .refused q

/-- EMIT: TXF to the link, the wait's clock at zero, and the poll at elapsed time 0 (R144). -/
def emitWith (pollNext : State → Result) (s : State) : Result := pollNext s.txWrite.startWait

/-- Build a frame and EMIT it: the common end of SEND_IMAGE, SEND_DATA and SEND_END (R171, R173, R175). -/
def sendFrameWith (pollNext : State → Result) (st : Stage) (sequence : U16) (body : List Byte) (s : State) : Result :=
  emitWith pollNext (s.launch st sequence body)

/-- SEND_DATA(k): the next sequence, the chunk read from PAYLOAD, the DATA frame (R173). A chunk the session does not have is
refused; a first address outside PAYLOAD is a fault (R51, assumption logs 9 and 10). -/
def sendDataWith (pollNext : State → Result) (k : U16) (s : State) : Result :=
  if k.toNat < s.totalPackets.toNat then
    if Config.chunk * k.toNat < s.payloadLen.toNat then
      sendFrameWith pollNext .data (s.seq + 1) (s.chunkBytes k.toNat) s
    else .fault (.payloadOutOfRange (Config.chunk * k.toNat))
  else .refused (.noSuchChunk k)

/-- SEND_END: the next sequence and the END frame, whose body is empty (R175). -/
def sendEndWith (pollNext : State → Result) (s : State) : Result :=
  sendFrameWith pollNext .final (s.seq + 1) [] s

/-- ON_ACK: the frame in flight is confirmed; the next frame goes out, or the session is done (R147, R172, R174, R176). -/
def onAckWith (pollNext : State → Result) (s : State) : Result :=
  match s.fsm with
  | .awaitStartAck =>
    if s.totalPackets = 0 then sendEndWith pollNext s else sendDataWith pollNext 0 s
  | .awaitDataAck =>
    if s.confirmChunk.chunkIdx = s.confirmChunk.totalPackets then sendEndWith pollNext s.confirmChunk
    else sendDataWith pollNext s.confirmChunk.chunkIdx s.confirmChunk
  | .awaitEndAck => .next (s.setFsm .done)
  | .idle => .refused (.notAwaiting s.fsm)
  | .done => .refused (.notAwaiting s.fsm)
  | .failed => .refused (.notAwaiting s.fsm)

/-- ATTEMPT_FAILED(cause): resend the same TXF while the stage's budget lasts, else fail the session (R148, R149). -/
def attemptFailedWith (pollNext : State → Result) (cause : FailCause) (s : State) : Result :=
  match s.fsm.stage? with
  | none => .refused (.notAwaiting s.fsm)
  | some st =>
    if s.retryCnt.toNat < st.budget then emitWith pollNext s.countRetry else .next (s.enterFailed st cause)

/-- The sequencer's reaction to a parsed reply (R143). -/
def reactWith (pollNext : State → Result) (p : PrefixResult) (s : State) : Result :=
  match p with
  | .ack => onAckWith pollNext (s.noteOutcome .ack)
  | .nack got => attemptFailedWith pollNext .nack ((s.logNack s.seq got).noteOutcome .nack)
  | .other => .next s

/-- POLL, with a bound on how many polls one step may chain: below the threshold nothing is read; else every byte is read and
the first 7 examined (R143). -/
def pollFuel : Nat → State → Result
  | 0, s => .next s
  | k + 1, s =>
    if s.rxAvail < Config.rxThreshold then .next s
    else reactWith (pollFuel k) (prefixOf (s.rxFront s.rxAvail) s.seq) (s.rxDrop s.rxAvail)

/-- POLL (R143). Two levels are all a chain can use: the first poll that reads empties the FIFO, and the poll inside any EMIT
it causes finds nothing (R151; assumption log 15). -/
def poll (s : State) : Result := pollFuel 2 s

/-- EMIT (R144). -/
def emit (s : State) : Result := emitWith poll s

/-- Build a frame and EMIT it (R171, R173, R175). -/
def sendFrame (st : Stage) (sequence : U16) (body : List Byte) (s : State) : Result :=
  sendFrameWith poll st sequence body s

/-- ATTEMPT_FAILED(cause) (R148). -/
def attemptFailed (cause : FailCause) (s : State) : Result := attemptFailedWith poll cause s

/-- TICK: outside an awaiting state nothing; at the limit Timeout without a poll; else one more tick and a poll (R146). -/
def tick (s : State) : Result :=
  match s.fsm.stage? with
  | none => .next s
  | some st =>
    if s.tickCnt.toNat + 1 = st.limit then attemptFailed .timeout (s.noteOutcome .timeout) else poll s.countTick

/-- Bytes reach the block and the next tick elapses: the two events of the spec in that order (R57, R146; assumption
log 2). Whatever the bytes are, the poll of that tick examines their prefix (R84, R85). -/
def frameArrives (bytes : List Byte) (s : State) : Result := tick (s.rxArrive bytes)

/-- The sequencer sends the frame of a stage with these field values: the body is `payload[0..length)` (R120); the trailer is
computed, as ENCODE computes it (R121; assumption log 22). A length that disagrees with the command is never emitted
(R84). The payload operand of a frame is 240 bytes (R70); that any other list runs too, its body cut at its end, is the model's
choice (DESIGN CHOICE, assumption log 26). -/
def transmit (st : Stage) (sequence : U16) (length : Byte) (payload : List Byte) (s : State) : Result :=
  if lengthSent st.command length then sendFrame st sequence (payload.take length.toNat) s
  else .refused (.lengthNeverSent st.command length)

/-- Run an operation in an awaiting state, the precondition R141 to R149 state (assumption log 10). -/
def whileAwaiting (op : State → Result) (s : State) : Result :=
  if s.fsm.busy then op s else .refused (.notAwaiting s.fsm)

/-- The outcome a poll of this state would give the wait, if any (R143). -/
def pollOutcome? (s : State) : Option WaitOutcome :=
  if s.rxAvail < Config.rxThreshold then none else (prefixOf (s.rxFront s.rxAvail) s.seq).outcome?

/-- The outcome a tick of this state would give the wait, if any (R146). -/
def tickOutcome? (s : State) : Option WaitOutcome :=
  match s.fsm.stage? with
  | none => none
  | some st => if s.tickCnt.toNat + 1 = st.limit then some .timeout else pollOutcome? s

/-- The rest of an ACK wait over the events the environment presents: arrivals fill the FIFO, ticks poll or time out, up to
the step that gives the outcome. Where another event is due, or none, the wait is still running (R145; assumption log 14). -/
def waitOver : List Event → State → Result
  | .rxArrive b :: es, s => waitOver es (s.rxArrive b)
  | .tick :: es, s =>
    match tickOutcome? s with
    | some o => andThen (tick { s with pending := es }) fun t => .next (t.returning (.waited (some o)))
    | none => andThen (tick s) (waitOver es)
  | es, s => .next (State.returning { s with pending := es } (.waited none))

/-- WAIT_FOR_ACK: the clock at zero, the poll at elapsed time 0, then the rest of the wait (R145). -/
def waitForAck (s : State) : Result :=
  match pollOutcome? s.startWait with
  | some o => andThen (poll s.startWait) fun t => .next (t.returning (.waited (some o)))
  | none => andThen (poll s.startWait) fun t => waitOver t.pending t

end Sys2Proof.Machine
end

