-- ==== Sys2Proof/Machine/Codec.lean ====
section
/-! DEFINITION. The Frame Codec's host operations ENCODE and DECODE (spec/41_frame_codec.md). Both are pure: they return a
value or an error kind and leave every register (R35). -/

namespace Sys2Proof.Machine

/-- ENCODE (R121): a command outside 1..5 is refused before the body is looked at (R212, U1); then PayloadTooLarge; else the
250 bytes. -/
def execEncode (command : Byte) (sequence : U16) (body : List Byte) (s : State) : Result :=
  if isCommand command then
    if Config.chunk < body.length then .next (s.returning (.error (.payloadTooLarge body.length)))
    else .next (s.returning (.bytes (encodeFrame command sequence body)))
  else .refused (.commandOutsideEnum command)

/-- DECODE (R125): a Frame, or the first error that applies. -/
def execDecode (w : List Byte) (s : State) : Result :=
  match decodeFrame w with
  | .ok f => .next (s.returning (.frame f))
  | .error e => .next (s.returning (.error e))

end Sys2Proof.Machine
end

