-- ==== Sys2Proof/Machine/Crc.lean ====
section
/-! DEFINITION. The CRC-16 unit's operations (spec/40_crc16.md): the host's CRC16, and the internal steps CRC_BIT and
CRC_BYTE on the register. -/

namespace Sys2Proof.Machine

/-- CRC16 (R104): the value is returned. Invoked by the host it leaves every register, the scratch register crc among them
(R35, R33; assumption log 7). -/
def execCrc16 (m : List Byte) (s : State) : Result := .next (s.returning (.crc (crc16 m)))

/-- CRC_BIT (R101). -/
def execCrcBit (d : Bool) (s : State) : Result := .next (s.setCrc (crcBitStep s.crc d))

/-- CRC_BYTE (R102). -/
def execCrcByte (b : Byte) (s : State) : Result := .next (s.setCrc (crcByteStep s.crc b))

/-- CRC_INIT, a step of the unit that is no row of the table (R110). -/
def crcInitStep (s : State) : State := s.setCrc Config.crcInit

/-- CRC_READ, a step of the unit that is no row of the table: the register, changing nothing (R110). -/
def crcRead (s : State) : U16 := s.crc

end Sys2Proof.Machine
end

