-- ==== Sys2Proof/Machine/Sequencer.lean ====
section
/-! DEFINITION. The Transfer Sequencer's internal steps (spec/42_transfer_fsm.md). POLL, EMIT, WAIT_FOR_ACK, ON_ACK,
SEND_CONFIRM and FAIL are steps of an awaiting state; TICK is ignored in the others (R146). -/

namespace Sys2Proof.Machine

/-- PARSE_PREFIX (R142): the result is returned; no register changes. Its operand has at least 7 bytes. -/
def execParsePrefix (buf : List Byte) (expected : U16) (s : State) : Result :=
  if Config.prefixLen ≤ buf.length then .next (s.returning (.parsed (prefixOf buf expected)))
  else .refused (.prefixTooShort buf.length)

/-- POLL (R143). -/
def execPoll (s : State) : Result := whileAwaiting poll s

/-- EMIT (R144). -/
def execEmit (s : State) : Result := whileAwaiting emit s

/-- WAIT_FOR_ACK (R145). -/
def execWaitForAck (s : State) : Result := whileAwaiting waitForAck s

/-- TICK (R146). -/
def execTick (s : State) : Result := tick s

/-- ON_ACK (R147). -/
def execOnAck (s : State) : Result := onAckWith poll s

/-- SEND_CONFIRM, the retry ATTEMPT_FAILED(cause) (R148). -/
def execSendConfirm (cause : FailCause) (s : State) : Result := attemptFailed cause s

/-- FAIL(cause): entry to FAILED (R149). -/
def execFail (cause : FailCause) (s : State) : Result :=
  match s.fsm.stage? with
  | some st => .next (s.enterFailed st cause)
  | none => .refused (.notAwaiting s.fsm)

end Sys2Proof.Machine
end

