-- ==== Sys2Proof/Machine/Session.lean ====
section
/-! DEFINITION. The session's operations SEND_IMAGE, SEND_DATA and SEND_END (spec/43_session.md). -/

namespace Sys2Proof.Machine

/-- SEND_IMAGE (R170, R171): Busy in an awaiting state, then SessionTooLarge, neither changing a register; else the session
registers are written, the START frame is built from them and emitted, and "accepted" is returned. -/
def execSendImage (imageId : U16) (payloadLen : Nat) (payload : List Host.Cell) (s : State) : Result :=
  if s.fsm.busy then .next (s.returning (.error .busy))
  else if Config.maxPayload < payloadLen then .next (s.returning (.error .sessionTooLarge))
  else
    sendFrame .start 0
      (startBody (s.beginSession imageId payloadLen payload).imageId (s.beginSession imageId payloadLen payload).totalPackets)
      ((s.beginSession imageId payloadLen payload).returning .accepted)

/-- SEND_DATA(k) (R173). -/
def execSendData (k : U16) (s : State) : Result := sendDataWith poll k s

/-- SEND_END (R175). -/
def execSendEnd (s : State) : Result := sendEndWith poll s

end Sys2Proof.Machine
end

