-- ==== Sys2Proof/Machine/Wire.lean ====
section
/-! DEFINITION. The five wire commands (spec/43_session.md R180 to R184, the opcode table's rows of format FRAME250). A
frame to the peer is sent by the sequencer; a frame to the block arrives and is examined as a reply at the next tick
(assumption logs 2 and 3). A payload operand that is not 240 bytes is no frame's; that such a term runs on the bytes it has is
the model's choice (DESIGN CHOICE, assumption log 26). -/

namespace Sys2Proof.Machine

/-- START (R180): sent, the START frame goes out and its wait begins (R171); received, it is other content (R142). -/
def execStartFrame (dir : Direction) (sequence : U16) (length : Byte) (payload : List Byte) (crc : U16) (s : State) :
    Result :=
  match dir with
  | .toPeer => transmit .start sequence length payload s
  | .toBlock => frameArrives (frameImage cmdStart sequence length payload crc) s

/-- DATA (R181): sent, the DATA frame goes out and its wait begins (R173); received, it is other content (R142). -/
def execDataFrame (dir : Direction) (sequence : U16) (length : Byte) (payload : List Byte) (crc : U16) (s : State) :
    Result :=
  match dir with
  | .toPeer => transmit .data sequence length payload s
  | .toBlock => frameArrives (frameImage cmdData sequence length payload crc) s

/-- END (R182): sent, the END frame goes out and its wait begins (R175); received, it is other content (R142). -/
def execEndFrame (dir : Direction) (sequence : U16) (length : Byte) (payload : List Byte) (crc : U16) (s : State) :
    Result :=
  match dir with
  | .toPeer => transmit .final sequence length payload s
  | .toBlock => frameArrives (frameImage cmdEnd sequence length payload crc) s

/-- ACK (R183): as a reply with the awaited sequence it confirms the frame in flight; with another it is ignored (R154). -/
def execAckFrame (sequence : U16) (length : Byte) (payload : List Byte) (crc : U16) (s : State) : Result :=
  frameArrives (frameImage cmdAck sequence length payload crc) s

/-- NACK (R184): as a reply it fails the attempt at once, whatever its sequence (R153). -/
def execNackFrame (sequence : U16) (length : Byte) (payload : List Byte) (crc : U16) (s : State) : Result :=
  frameArrives (frameImage cmdNack sequence length payload crc) s

end Sys2Proof.Machine
end

