-- ==== Sys2Proof/Machine/Dispatch.lean ====
section
/-! DEFINITION. One arm per row of spec/opcode_table.json, in the table's order. -/

namespace Sys2Proof.Machine

def exec (i : Instr) (s : State) : Host.Outcome State Fault Refusal :=
  match i with
  | .startFrame dir sequence length payload crc => Sys2Proof.Machine.execStartFrame dir sequence length payload crc s
  | .dataFrame dir sequence length payload crc => Sys2Proof.Machine.execDataFrame dir sequence length payload crc s
  | .endFrame dir sequence length payload crc => Sys2Proof.Machine.execEndFrame dir sequence length payload crc s
  | .ackFrame sequence length payload crc => Sys2Proof.Machine.execAckFrame sequence length payload crc s
  | .nackFrame sequence length payload crc => Sys2Proof.Machine.execNackFrame sequence length payload crc s
  | .crc16 m => Sys2Proof.Machine.execCrc16 m s
  | .encode command sequence body => Sys2Proof.Machine.execEncode command sequence body s
  | .decode w => Sys2Proof.Machine.execDecode w s
  | .sendImage imageId payloadLen payload => Sys2Proof.Machine.execSendImage imageId payloadLen payload s
  | .crcBit d => Sys2Proof.Machine.execCrcBit d s
  | .crcByte b => Sys2Proof.Machine.execCrcByte b s
  | .parsePrefix buf expected => Sys2Proof.Machine.execParsePrefix buf expected s
  | .poll => Sys2Proof.Machine.execPoll s
  | .emit => Sys2Proof.Machine.execEmit s
  | .waitForAck => Sys2Proof.Machine.execWaitForAck s
  | .tick => Sys2Proof.Machine.execTick s
  | .onAck => Sys2Proof.Machine.execOnAck s
  | .sendConfirm cause => Sys2Proof.Machine.execSendConfirm cause s
  | .fail cause => Sys2Proof.Machine.execFail cause s
  | .sendData k => Sys2Proof.Machine.execSendData k s
  | .sendEnd => Sys2Proof.Machine.execSendEnd s

end Sys2Proof.Machine
end

