-- ==== Sys2Proof/WellFormed.lean ====
section
/-! DEFINITION. When a term of `Instr` is an operation the spec describes: the operand ranges of spec/30_encoding.md R70 to
R80, spec/41_frame_codec.md R121, spec/42_transfer_fsm.md R142 and spec/43_session.md R170. A term outside is still given to
`exec`, and nothing here is assumed by a meaning: a command, a prefix operand or a sent length outside its range is refused by
name (assumption logs 10, 11, 22); a payload field of another length (DESIGN CHOICE, assumption log 26) and cells in another
form (assumption log 8) run on what they hold. -/

namespace Sys2Proof

/-- The payload field of a frame is 240 bytes (R70, R75). -/
def payloadFieldOk (payload : List Byte) : Bool := payload.length == Config.chunk

/-- The length byte of a sent frame agrees with its command (R77 to R79, R84); a received frame's is not examined (R80,
R84). -/
def sentLengthOk (dir : Direction) (command length : Byte) : Bool :=
  match dir with
  | .toPeer => Machine.lengthSent command length
  | .toBlock => true

/-- The PAYLOAD argument is written canonically (addresses strictly rising, no cell holding the 0 that an unlisted address
holds) and only at addresses below the payload length (R50, assumption log 8). -/
def payloadCellsOk (payloadLen : Nat) : List Host.Cell → Bool
  | [] => true
  | [c] => decide (c.2 ≠ 0#8 ∧ c.1 < payloadLen)
  | c :: d :: rest => decide (c.2 ≠ 0#8 ∧ c.1 < d.1) && payloadCellsOk payloadLen (d :: rest)

/-- PARSE_PREFIX needs at least the 7 bytes it examines (R142). -/
def prefixOperandOk (buf : List Byte) : Bool := decide (Config.prefixLen ≤ buf.length)

/-- The operands of an operation are in the ranges its rule gives. -/
def Instr.wellFormed : Instr → Bool
  | .startFrame dir _ length payload _ => payloadFieldOk payload && sentLengthOk dir Machine.cmdStart length
  | .dataFrame dir _ length payload _ => payloadFieldOk payload && sentLengthOk dir Machine.cmdData length
  | .endFrame dir _ length payload _ => payloadFieldOk payload && sentLengthOk dir Machine.cmdEnd length
  | .ackFrame _ _ payload _ => payloadFieldOk payload
  | .nackFrame _ _ payload _ => payloadFieldOk payload
  | .crc16 _ => true
  | .encode command _ _ => Machine.isCommand command
  | .decode _ => true
  | .sendImage _ payloadLen payload => payloadCellsOk payloadLen payload
  | .crcBit _ => true
  | .crcByte _ => true
  | .parsePrefix buf _ => prefixOperandOk buf
  | .poll => true
  | .emit => true
  | .waitForAck => true
  | .tick => true
  | .onAck => true
  | .sendConfirm _ => true
  | .fail _ => true
  | .sendData _ => true
  | .sendEnd => true

end Sys2Proof
end

