-- ==== Sys2Proof/Decode.lean ====
section
/-! DEFINITION. From bits to operations and back. A frame is recognised by the match and mask of its row: the four header
bytes and the command byte (spec/30_encoding.md R83), in exactly 250 bytes (R70); no other field is tested, as no rule tests
one (R80, R84). A host request is recognised by its 2-bit selector (R83). The rows of format INTERNAL have no encoding.
The decoder is total: what is no operation is rejected by name. -/

namespace Sys2Proof

/-- The operation whose frame has this command byte and these fields, on this direction of the link (R74). -/
def frameInstr (dir : Direction) (command : Byte) (sequence : U16) (length : Byte) (payload : List Byte) (crc : U16) :
    Except DecodeError Instr :=
  if command = Machine.cmdStart then .ok (.startFrame dir sequence length payload crc)
  else if command = Machine.cmdData then .ok (.dataFrame dir sequence length payload crc)
  else if command = Machine.cmdEnd then .ok (.endFrame dir sequence length payload crc)
  else if command = Machine.cmdAck then
    match dir with
    | .toBlock => .ok (.ackFrame sequence length payload crc)
    | .toPeer => .error (.neverSent command)
  else if command = Machine.cmdNack then
    match dir with
    | .toBlock => .ok (.nackFrame sequence length payload crc)
    | .toPeer => .error (.neverSent command)
  else .error (.frameCommand command)

/-- Decode a frame's bytes: size, header, command, then the fields at their offsets (R70, R82). -/
def decodeFrameBytes (dir : Direction) (w : List Byte) : Except DecodeError Instr :=
  if w.length = Config.frameLen then
    if Machine.headerOf w = Config.magic then
      frameInstr dir (Machine.byteAt w 4) (Machine.u16At w 5) (Machine.byteAt w 7) (Machine.payloadField w)
        (Machine.u16At w 248)
    else .error (.frameHeader (Machine.headerOf w))
  else .error (.frameSize w.length)

/-- Decode a host request by its selector (R83); every selector value names an operation. -/
def decodeRequest (r : HostRequest) : Instr :=
  if r.op = 0#2 then .crc16 r.bytes
  else if r.op = 1#2 then .encode r.command r.sequence r.bytes
  else if r.op = 2#2 then .decode r.bytes
  else .sendImage r.imageId r.payloadLen r.payload

/-- The decoder. -/
def decode : Encoded → Except DecodeError Instr
  | .frame dir w => decodeFrameBytes dir w
  | .request r => .ok (decodeRequest r)

/-- The encoder: the encoded form of an operation, and none for the rows that have no encoding (R83). -/
def encode : Instr → Option Encoded
  | .startFrame dir sequence length payload crc =>
    some (.frame dir (Machine.frameImage Machine.cmdStart sequence length payload crc))
  | .dataFrame dir sequence length payload crc =>
    some (.frame dir (Machine.frameImage Machine.cmdData sequence length payload crc))
  | .endFrame dir sequence length payload crc =>
    some (.frame dir (Machine.frameImage Machine.cmdEnd sequence length payload crc))
  | .ackFrame sequence length payload crc =>
    some (.frame .toBlock (Machine.frameImage Machine.cmdAck sequence length payload crc))
  | .nackFrame sequence length payload crc =>
    some (.frame .toBlock (Machine.frameImage Machine.cmdNack sequence length payload crc))
  | .crc16 m => some (.request { op := 0#2, bytes := m })
  | .encode command sequence body =>
    some (.request { op := 1#2, command := command, sequence := sequence, bytes := body })
  | .decode w => some (.request { op := 2#2, bytes := w })
  | .sendImage imageId payloadLen payload =>
    some (.request { op := 3#2, imageId := imageId, payloadLen := payloadLen, payload := payload })
  | .crcBit _ => none
  | .crcByte _ => none
  | .parsePrefix _ _ => none
  | .poll => none
  | .emit => none
  | .waitForAck => none
  | .tick => none
  | .onAck => none
  | .sendConfirm _ => none
  | .fail _ => none
  | .sendData _ => none
  | .sendEnd => none

/-- The low `n` bytes of a number, the lowest first: the opcode table's bit numbering, where byte `o` holds bits `8*o` to
`8*o + 7` (R70). -/
def bytesOfNat : Nat → Nat → List Byte
  | 0, _ => []
  | n + 1, w => BitVec.ofNat 8 w :: bytesOfNat n (w / 256)

/-- The encoded form that a word of the opcode table stands for. A row of one byte or less is a selector (R83), its request's
operands all zero or empty; a wider row is a frame that the block receives, its bytes above the row's all zero. -/
def tableEncoded (nbits w : Nat) : Encoded :=
  if nbits ≤ 8 then .request { op := BitVec.ofNat 2 w }
  else .frame .toBlock (bytesOfNat Config.frameLen (w % 2 ^ nbits))

/-- The operation the decoder reads from a word numbered as the opcode table numbers it. -/
def decodeTableWord (nbits w : Nat) : Option Instr :=
  match decode (tableEncoded nbits w) with
  | .ok i => some i
  | .error _ => none

end Sys2Proof
end

