-- ==== Sys2Proof/Machine/Fetch.lean ====
section
/-! DEFINITION. What the environment presents, as the block takes it: an operation to run, bytes for the RX FIFO, a reset, or
bytes that are no frame of the table (spec/00_scope.md R9, spec/20_memory.md R57, spec/30_encoding.md R84,
spec/70_reset_and_hazards.md R230). -/

namespace Sys2Proof.Machine

/-- An event, decoded. -/
inductive Fetched where
  | instr (i : Instr)
  | arrival (bytes : List Byte)
  | hardReset
  | unframed (bytes : List Byte)
deriving DecidableEq, Repr

/-- A host request and a frame are decoded; a Tick is the operation TICK; an arrival and a reset are the environment's own
steps. Bytes with another header, command or size than a frame of the table are received like any others (R84, R85). -/
def fetchEvent : Event → Fetched
  | .hostReq r => .instr (decodeRequest r)
  | .tick => .instr .tick
  | .rxArrive bytes => .arrival bytes
  | .frameAtTick bytes =>
    match decode (.frame .toBlock bytes) with
    | .ok i => .instr i
    | .error _ => .unframed bytes
  | .reset => .hardReset

/-- The event that presents an encoded form to the block. A frame to the peer is never presented to it: it is the block's own
output. -/
def eventOf : Encoded → Event
  | .request r => .hostReq r
  | .frame _ bytes => .frameAtTick bytes

/-- The state with an event presented next, before what was pending. -/
def State.present (s : State) (e : Event) : State := { s with pending := e :: s.pending }

/-- The state once its first pending event is taken. -/
def State.taken (s : State) (rest : List Event) : State := { s with pending := rest }

end Sys2Proof.Machine
end

