-- ==== Sys2Proof/Machine/Step.lean ====
section
/-! DEFINITION. One step: the first event the environment has pending is presented and taken whole (spec/00_scope.md R9,
spec/20_memory.md R60). With nothing pending the block is idle and nothing changes (spec/42_transfer_fsm.md R140). -/

namespace Sys2Proof.Machine

/-- Three outcomes: next, fault, refusal. -/
def step (s : State) : Host.Outcome State Fault Refusal :=
  match s.pending with
  | [] => .next s
  | e :: rest =>
    match fetchEvent e with
    | .instr i => exec i (s.taken rest)
    | .arrival bytes => .next ((s.taken rest).rxArrive bytes)
    | .hardReset => .next (s.taken rest).hardReset
    | .unframed bytes => frameArrives bytes (s.taken rest)

/-- The state with a word of the opcode table presented next (Decode.lean says how a word is numbered): a row of one byte or
less as a host request, a wider row as a frame that reaches the block. -/
def State.withFetchWord (s : State) (nbits w : Nat) : State := s.present (eventOf (tableEncoded nbits w))

end Sys2Proof.Machine
end

