-- ==== Sys2Proof/Safety.lean ====
section
/-! DEFINITION. What a good state of the block is, in the terms the statements use: the invariants of spec/10_state.md R39,
the canonical form of PAYLOAD, and runs that never fault (spec/20_memory.md R51). -/

namespace Sys2Proof.Machine

/-- R39 item 1: while the START frame is in flight. -/
def StartInFlight (s : State) : Prop :=
  s.seq = 0 ∧ s.chunkIdx = 0 ∧ s.sentBytes = 0 ∧ s.retryCnt = 0 ∧ s.curLen = 4 ∧
    s.txf.toList = encodeFrame cmdStart 0 (startBody s.imageId s.totalPackets) ∧ s.tickCnt.toNat < Stage.start.limit

/-- R39 item 2: while a DATA frame is in flight. The chunk is the one PAYLOAD holds, which is fixed for the session (R64). -/
def DataInFlight (s : State) : Prop :=
  s.chunkIdx.toNat < s.totalPackets.toNat ∧ s.seq.toNat = s.chunkIdx.toNat + 1 ∧
    s.sentBytes.toNat = 240 * s.chunkIdx.toNat ∧
    s.curLen.toNat = min 240 (s.payloadLen.toNat - 240 * s.chunkIdx.toNat) ∧
    1 ≤ s.curLen.toNat ∧ s.curLen.toNat ≤ 240 ∧ s.retryCnt.toNat ≤ 3 ∧
    s.txf.toList = encodeFrame cmdData s.seq (s.chunkBytes s.chunkIdx.toNat) ∧ s.tickCnt.toNat < Stage.data.limit

/-- The counters once every chunk is acknowledged and END has its number (R39 items 3 and 4). -/
def AllConfirmed (s : State) : Prop :=
  s.chunkIdx = s.totalPackets ∧ s.seq = s.totalPackets + 1 ∧ s.sentBytes = s.payloadLen

/-- R39 item 3: while the END frame is in flight. -/
def EndInFlight (s : State) : Prop :=
  AllConfirmed s ∧ s.retryCnt = 0 ∧ s.curLen = 0 ∧ s.txf.toList = encodeFrame cmdEnd s.seq [] ∧
    s.tickCnt.toNat < Stage.final.limit

/-- R39 item 5: after a failure. -/
def FailureRecorded (s : State) : Prop :=
  s.failStage ≠ none ∧ s.failCause ≠ none ∧
    (s.failStage = some .data → s.failIndex = s.seq ∧ s.seq = s.chunkIdx + 1) ∧
    (s.failStage ≠ some .data → s.failIndex = 0)

/-- The invariant of the session (R39, and R34 for the failure record), with the canonical form of PAYLOAD. -/
structure SessionInv (s : State) : Prop where
  /-- PAYLOAD is in canonical form (assumption log 8). -/
  payloadWf : Memory.wf s.payload = true
  /-- R39 item 6; it holds in every state. -/
  packets : s.totalPackets.toNat = packetsFor s.payloadLen.toNat
  /-- R39 item 1. -/
  start : s.fsm = .awaitStartAck → StartInFlight s
  /-- R39 item 2. -/
  data : s.fsm = .awaitDataAck → DataInFlight s
  /-- R39 item 3. -/
  final : s.fsm = .awaitEndAck → EndInFlight s
  /-- R39 item 4. -/
  done : s.fsm = .done → AllConfirmed s
  /-- R39 item 5. -/
  failed : s.fsm = .failed → FailureRecorded s
  /-- The failure record is empty unless the session failed (R34, R39 item 4). -/
  unfailed : s.fsm ≠ .failed → s.failStage = none ∧ s.failIndex = 0 ∧ s.failCause = none

/-- The step from this state is no fault (R51: the fault is unreachable under the rules). -/
def NeverFaults (s : State) : Prop := ∀ f, step s ≠ .fault f

/-- A number of steps, up to the first that gives no next state. -/
def stepTimes : Nat → State → Result
  | 0, s => .next s
  | n + 1, s => andThen (step s) (stepTimes n)

/-- Each ENCODE request names a command: the one precondition an event has (R121, U1). Bytes that arrive, with a tick or
without, may be any (R84). -/
def EventOk : Event → Prop
  | .hostReq r => r.op = 1#2 → isCommand r.command = true
  | .tick => True
  | .rxArrive _ => True
  | .frameAtTick _ => True
  | .reset => True

end Sys2Proof.Machine
end

