-- ==== Sys2Proof/Certificates/Slice0/Obligations.lean ====
section
/-! DEFINITION. The statements for the provers, from the numbered rules of spec/. A next state is written as the old state
with the fields the rule changes, so that each such equation is also the operation's frame: every register, every byte of
TXF and of PAYLOAD, the RX FIFO, the output events and the pending events are as before unless named. -/

open Sys2Proof Sys2Proof.Machine

/-! ## The CRC-16 unit -/

/-- R101: CRC_BIT completes and gives every bit of the register as the rule lists them; nothing else changes. -/
def Obligations.CrcBitGivesEveryRegisterBit : Prop :=
  ∀ (d : Bool) (s : State), ∃ c : U16, exec (.crcBit d) s = .next { s with crc := c } ∧
    c.getLsbD 15 = (s.crc.getLsbD 0 != d) ∧ c.getLsbD 14 = s.crc.getLsbD 15 ∧
    c.getLsbD 13 = (s.crc.getLsbD 14 != (s.crc.getLsbD 0 != d)) ∧
    (∀ k, 1 ≤ k → k ≤ 12 → c.getLsbD k = s.crc.getLsbD (k + 1)) ∧
    c.getLsbD 0 = (s.crc.getLsbD 1 != (s.crc.getLsbD 0 != d))

/-- R102: CRC_BYTE completes, and is eight CRC_BIT steps on the byte's bits 0 to 7 in that order; and the rule's example. -/
def Obligations.CrcByteIsEightBitSteps : Prop :=
  (∀ (b : Byte) (s : State), ∃ c : U16, exec (.crcByte b) s = .next { s with crc := c } ∧
    [0, 1, 2, 3, 4, 5, 6, 7].foldl (fun r i => andThen r (exec (.crcBit (b.getLsbD i)))) (.next s)
      = .next { s with crc := c }) ∧
  (∀ s : State, s.crc = 0xFFFF#16 → exec (.crcByte 0x01#8) s = .next { s with crc := 0x807E#16 }) ∧
  [true, false, false, false, false, false, false, false].scanl crcBitStep 0xFFFF#16
    = [0xFFFF#16, 0x7FFF#16, 0x9FFE#16, 0x4FFF#16, 0x87FE#16, 0x43FF#16, 0x81FE#16, 0x40FF#16, 0x807E#16]

/-- R103: the byte-at-once form gives the same register as the bit-serial form, for every register and byte. -/
def Obligations.CrcByteAtOnceIsBitSerial : Prop := ∀ (c : U16) (b : Byte), crcByteAtOnce c b = crcByteStep c b

/-- R104, R110: CRC16 completes for every byte string and returns what CRC_INIT, then CRC_BYTE for each byte in index order,
leave in the register; invoked by the host it changes no register (R35). -/
def Obligations.Crc16IsInitThenEveryByte : Prop :=
  ∀ (m : List Byte) (s : State), ∃ v : U16, exec (.crc16 m) s = .next { s with answer := .crc v } ∧
    m.foldl (fun r b => andThen r (exec (.crcByte b))) (.next { s with crc := 0xFFFF#16 }) = .next { s with crc := v }

/-- R105: CRC16 is affine: for three strings of one length the CRCs' exclusive or is the CRC of the strings'. -/
def Obligations.Crc16IsAffine : Prop :=
  ∀ a b c : List Byte, a.length = b.length → b.length = c.length →
    crc16 a ^^^ crc16 b ^^^ crc16 c
      = crc16 (List.zipWith (fun x y => x ^^^ y) (List.zipWith (fun x y => x ^^^ y) a b) c)

/-- R111: every single-bit flip changes the CRC. -/
def Obligations.SingleBitFlipChangesCrc : Prop :=
  ∀ (m : List Byte) (i j : Nat), i < m.length → j < 8 →
    crc16 (m.set i (byteAt m i ^^^ (1#8 <<< j))) ≠ crc16 m

/-- R108: over a 250-byte string the register ends at zero exactly when the trailer is the CRC of the first 248 bytes, low
byte first. -/
def Obligations.ZeroResidueIsValidTrailer : Prop :=
  ∀ f : List Byte, f.length = 250 →
    (crc16 f = 0 ↔ (crc16 (f.take 248)).toNat = (byteAt f 248).toNat + 256 * (byteAt f 249).toNat)

/-! ## The Frame Codec -/

/-- R121, with the fields of R75 and R76: ENCODE of one of the five commands and a body of at most 240 bytes completes with 250
bytes: header, command, sequence, length, the body, zeros to offset 247, and the CRC of the first 248 bytes low byte first,
so that the CRC of all 250 is zero (R122); and no register changes (R35). -/
def Obligations.EncodeBuildsTheFrame : Prop :=
  ∀ (command : Byte) (sequence : U16) (body : List Byte) (s : State),
    1 ≤ command.toNat → command.toNat ≤ 5 → body.length ≤ 240 →
    ∃ f : List Byte, exec (.encode command sequence body) s = .next { s with answer := .bytes f } ∧
      f.length = 250 ∧ f.take 4 = [0x5A#8, 0xA5#8, 0x55#8, 0xAA#8] ∧ byteAt f 4 = command ∧
      (byteAt f 5).toNat + 256 * (byteAt f 6).toNat = sequence.toNat ∧ (byteAt f 7).toNat = body.length ∧
      (∀ i, i < body.length → byteAt f (8 + i) = byteAt body i) ∧
      (∀ i, body.length ≤ i → i < 240 → byteAt f (8 + i) = 0) ∧
      (byteAt f 248).toNat + 256 * (byteAt f 249).toNat = (crc16 (f.take 248)).toNat ∧ crc16 f = 0

/-- R121, R201, R212: a body over 240 bytes returns PayloadTooLarge with its length and changes nothing; a command outside
1..5 is refused, whatever the body. -/
def Obligations.EncodeOutsideItsDomain : Prop :=
  ∀ (command : Byte) (sequence : U16) (body : List Byte) (s : State),
    (1 ≤ command.toNat ∧ command.toNat ≤ 5 ∧ 240 < body.length →
      exec (.encode command sequence body) s = .next { s with answer := .error (.payloadTooLarge body.length) }) ∧
    (¬ (1 ≤ command.toNat ∧ command.toNat ≤ 5) →
      exec (.encode command sequence body) s = .refused (.commandOutsideEnum command))

/-- R125: DECODE completes for every byte string: the first of the size, header and CRC checks that fails is the one error
returned; else the Frame with its raw fields; no register changes. -/
def Obligations.DecodeReportsTheFirstFailingCheck : Prop :=
  ∀ (w : List Byte) (s : State),
    (w.length ≠ 250 → exec (.decode w) s = .next { s with answer := .error (.badSize w.length) }) ∧
    (w.length = 250 → w.take 4 ≠ [0x5A#8, 0xA5#8, 0x55#8, 0xAA#8] →
      ∃ h : U32, exec (.decode w) s = .next { s with answer := .error (.badHeader h) } ∧
        h.toNat = (byteAt w 0).toNat + 256 * (byteAt w 1).toNat + 65536 * (byteAt w 2).toNat
          + 16777216 * (byteAt w 3).toNat) ∧
    (w.length = 250 → w.take 4 = [0x5A#8, 0xA5#8, 0x55#8, 0xAA#8] →
      ∃ r q : U16, r.toNat = (byteAt w 248).toNat + 256 * (byteAt w 249).toNat ∧
        q.toNat = (byteAt w 5).toNat + 256 * (byteAt w 6).toNat ∧
        (crc16 (w.take 248) ≠ r →
          exec (.decode w) s = .next { s with answer := .error (.checksumMismatch (crc16 (w.take 248)) r) }) ∧
        (crc16 (w.take 248) = r →
          exec (.decode w) s = .next { s with answer := (.frame
            { header := 0xAA55A55A#32, command := byteAt w 4, sequence := q, length := byteAt w 7,
              payload := (w.drop 8).take 240, crc := r }) }))

/-- R107: the validator compares all 16 bits of the recomputed CRC with the trailing two bytes, low byte first, and DECODE of
a frame with the right header fails with ChecksumMismatch exactly when it does not pass; and the rule's example. -/
def Obligations.ValidatorComparesAllSixteenBits : Prop :=
  (∀ (f : List Byte) (s : State), f.length = 250 →
    (crcValid f = true ↔
      (crc16 (f.take 248)).toNat = (byteAt f 248).toNat + 256 * (byteAt f 249).toNat) ∧
    (f.take 4 = [0x5A#8, 0xA5#8, 0x55#8, 0xAA#8] →
      ((∃ c r, exec (.decode f) s = .next { s with answer := .error (.checksumMismatch c r) }) ↔
        crcValid f = false))) ∧
  crcValid ([0x5A#8, 0xA5#8, 0x55#8, 0xAA#8, 3#8, 2#8, 0#8, 0#8] ++ List.replicate 240 0#8 ++ [0xBD#8, 0xB3#8]) = true ∧
  crcValid ([0x5A#8, 0xA5#8, 0x55#8, 0xAA#8, 3#8, 2#8, 0#8, 0#8] ++ List.replicate 240 0#8 ++ [0xB3#8, 0xBD#8]) = false

/-- R126: DECODE of what ENCODE builds succeeds with the same command, sequence and length, the padded body, and the CRC of
the first 248 bytes. -/
def Obligations.DecodeOfEncodedFrameRestoresFields : Prop :=
  ∀ (command : Byte) (sequence : U16) (body : List Byte) (s : State),
    1 ≤ command.toNat → command.toNat ≤ 5 → body.length ≤ 240 →
    ∃ f, exec (.encode command sequence body) s = .next { s with answer := .bytes f } ∧
      exec (.decode f) s = .next { s with answer := (.frame
        { header := 0xAA55A55A#32, command := command, sequence := sequence,
          length := BitVec.ofNat 8 body.length, payload := body ++ List.replicate (240 - body.length) 0#8,
          crc := crc16 (f.take 248) }) }

/-- R126, the other direction: a decoded frame with a command of the five, a length of at most 240 and zero padding is what
ENCODE builds from its fields. -/
def Obligations.EncodeOfCanonicalFrameRestoresBytes : Prop :=
  ∀ (w : List Byte) (f : Frame) (s : State),
    exec (.decode w) s = .next { s with answer := .frame f } →
    1 ≤ f.command.toNat → f.command.toNat ≤ 5 → f.length.toNat ≤ 240 →
    (∀ i, f.length.toNat ≤ i → i < 240 → byteAt f.payload i = 0) →
    exec (.encode f.command f.sequence (f.payload.take f.length.toNat)) s = .next { s with answer := .bytes w }

/-- R35: whatever a host codec request answers, no register, no space and no event but the returned value changes. -/
def Obligations.CodecRequestsLeaveTheSession : Prop :=
  ∀ (r : HostRequest) (s t : State), r.op ≠ 3#2 → exec (decodeRequest r) s = .next t → { t with answer := s.answer } = s

/-! ## Decoding and encoding operations -/

/-- R70, R83: words written out from the table's match patterns and from the frame layout decode to their operations. That a
selector word's request has zero or empty operands is the model's choice (assumption log 4), and so is the direction: a
START, DATA or END word is read as a frame that the block receives (assumption log 3). -/
def Obligations.TableWordsDecodeToTheirRows : Prop :=
  decodeTableWord 8 0 = some (.crc16 []) ∧ decodeTableWord 8 1 = some (.encode 0 0 []) ∧
  decodeTableWord 8 2 = some (.decode []) ∧ decodeTableWord 8 3 = some (.sendImage 0 0 []) ∧
  decodeTableWord 40 0x01AA55A55A = some (.startFrame .toBlock 0 0 (List.replicate 240 0) 0) ∧
  decodeTableWord 64 0xF0123402AA55A55A = some (.dataFrame .toBlock 0x1234 0xF0 (List.replicate 240 0) 0) ∧
  decodeTableWord 56 0x000403AA55A55A = some (.endFrame .toBlock 4 0 (List.replicate 240 0) 0) ∧
  decodeTableWord 56 0x010104AA55A55A = some (.ackFrame 0x0101 0 (List.replicate 240 0) 0) ∧
  decodeTableWord 56 0x000905AA55A55A = some (.nackFrame 9 0 (List.replicate 240 0) 0) ∧
  decodeTableWord 40 0x06AA55A55A = none ∧ decodeTableWord 40 0x045AA555AA = none

/-- R70, R83: every well-formed operation that has an encoding is what its encoding decodes to; an operation that has none is
what nothing decodes to. -/
def Obligations.DecodeOfEncodeIsTheOperation : Prop :=
  ∀ i : Instr,
    (∀ e, i.wellFormed = true → encode i = some e → decode e = .ok i) ∧
    (encode i = none → ∀ e, decode e ≠ .ok i)

/-- R70, R85: a byte string that decodes to a frame's operation on either direction is exactly the 250 bytes that the
operation encodes to, so no bit of a frame is dropped. -/
def Obligations.EncodeOfDecodedFrameIsItsBytes : Prop :=
  ∀ (dir : Direction) (w : List Byte) (i : Instr), decode (.frame dir w) = .ok i →
    w.length = 250 ∧ encode i = some (.frame dir w)

/-! ## The step, arrival, reset -/

/-- R9, R83: when the event presented next is a host request, a tick, or a frame whose bytes decode to an operation, the step
is that operation's `exec` with the event taken. Any other bytes of a frame event arrive and are followed by the tick; of a
frame's size, with another header or command, they are other content: discarded, and the wait goes on (R84). The events are
the model's choice, assumption logs 1 and 2. -/
def Obligations.StepRunsTheDecodedOperation : Prop :=
  ∀ (s : State) (rest : List Event),
    (∀ r, s.pending = .hostReq r :: rest → step s = exec (decodeRequest r) { s with pending := rest }) ∧
    (s.pending = .tick :: rest → step s = exec .tick { s with pending := rest }) ∧
    (∀ b i, s.pending = .frameAtTick b :: rest → decode (.frame .toBlock b) = .ok i →
      step s = exec i { s with pending := rest }) ∧
    (∀ b why, s.pending = .frameAtTick b :: rest → decode (.frame .toBlock b) = .error why →
      step s = exec .tick { s with pending := rest, rxFifo := s.rxFifo ++ b } ∧
      (∀ st : Stage, b.length = 250 → s.fsm = st.fsm → s.tickCnt.toNat + 1 ≠ st.limit → s.rxFifo = [] →
        step s = .next { s with pending := rest, tickCnt := s.tickCnt + 1 }))

/-- R57, R140: an arrival appends its bytes to the back of the RX FIFO and does nothing else; with no event the block is idle
(the second clause is the model's choice, assumption log 1). -/
def Obligations.ArrivalsAppendAndIdleKeeps : Prop :=
  ∀ s : State,
    (∀ b rest, s.pending = .rxArrive b :: rest →
      step s = .next { s with pending := rest, rxFifo := s.rxFifo ++ b }) ∧
    (s.pending = [] → step s = .next s)

/-- R38: the reset state has every value the rule gives. -/
def Obligations.ResetValues : Prop :=
  State.reset.fsm = .idle ∧ State.reset.chunkIdx = 0 ∧ State.reset.seq = 0 ∧ State.reset.imageId = 0 ∧
  State.reset.payloadLen = 0 ∧ State.reset.totalPackets = 0 ∧ State.reset.curLen = 0 ∧ State.reset.sentBytes = 0 ∧
  State.reset.retryCnt = 0 ∧ State.reset.tickCnt = 0 ∧ State.reset.lastOutcome = none ∧ State.reset.failStage = none ∧
  State.reset.failIndex = 0 ∧ State.reset.failCause = none

/-- R230, R231: a hardware reset in any state completes with every register the rule names at its reset value; it emits
nothing, and the RX FIFO, PAYLOAD's bytes and the events to come are untouched. TXF and crc are left unsaid: the rule leaves
them unspecified. -/
def Obligations.HardwareResetAbandonsSilently : Prop :=
  ∀ (s : State) (rest : List Event), s.pending = .reset :: rest →
    ∃ t, step s = .next t ∧
      t.fsm = .idle ∧ t.chunkIdx = 0 ∧ t.seq = 0 ∧ t.imageId = 0 ∧ t.payloadLen = 0 ∧ t.totalPackets = 0 ∧
      t.curLen = 0 ∧ t.sentBytes = 0 ∧ t.retryCnt = 0 ∧ t.tickCnt = 0 ∧ t.lastOutcome = none ∧ t.failStage = none ∧
      t.failIndex = 0 ∧ t.failCause = none ∧ t.rxFifo = s.rxFifo ∧ t.outputs = s.outputs ∧
      (∀ a, Memory.read t.payload a = Memory.read s.payload a) ∧ t.pending = rest

/-! ## The prefix parse and the poll -/

/-- R142: PARSE_PREFIX of at least 7 bytes completes: Ack for the header bytes, command 4 and all 16 bits of the expected
sequence; Nack with the sequence field for the header bytes and command 5; else Other; nothing else changes. Fewer bytes are
refused. -/
def Obligations.ParsePrefixExaminesSevenBytes : Prop :=
  ∀ (buf : List Byte) (expected : U16) (s : State),
    (7 ≤ buf.length → ∃ p, exec (.parsePrefix buf expected) s = .next { s with answer := .parsed p } ∧
      (p = .ack ↔ buf.take 5 = [0x5A#8, 0xA5#8, 0x55#8, 0xAA#8, 4#8] ∧
        (byteAt buf 5).toNat + 256 * (byteAt buf 6).toNat = expected.toNat) ∧
      (∀ got : U16, p = .nack got ↔ buf.take 5 = [0x5A#8, 0xA5#8, 0x55#8, 0xAA#8, 5#8] ∧
        (byteAt buf 5).toNat + 256 * (byteAt buf 6).toNat = got.toNat)) ∧
    (buf.length < 7 → exec (.parsePrefix buf expected) s = .refused (.prefixTooShort buf.length))

/-- R143, R56: in an awaiting state a poll that finds fewer than 11 bytes reads nothing and changes nothing. -/
def Obligations.PollBelowElevenBytesReadsNothing : Prop :=
  ∀ s : State, s.fsm.busy = true → s.rxFifo.length < 11 → exec .poll s = .next s

/-- R154: an ACK for another sequence than the awaited one is dropped: the poll removes all the bytes of the read, whatever
stands behind the prefix, and nothing else changes. -/
def Obligations.PollDropsAckForAnotherSequence : Prop :=
  ∀ s : State, s.fsm.busy = true → 11 ≤ s.rxFifo.length →
    s.rxFifo.take 5 = [0x5A#8, 0xA5#8, 0x55#8, 0xAA#8, 4#8] →
    (byteAt s.rxFifo 5).toNat + 256 * (byteAt s.rxFifo 6).toNat ≠ s.seq.toNat →
    exec .poll s = .next { s with rxFifo := [] }

/-- R143: a poll whose read begins with the awaited ACK empties the FIFO, records ACK and reacts as ON_ACK; one whose read
begins with a NACK empties it, logs both sequences, records NACK and reacts as ATTEMPT_FAILED(NACK); any other read of 11 or
more bytes is discarded. -/
def Obligations.PollReactsToTheFirstReply : Prop :=
  ∀ s : State, s.fsm.busy = true → 11 ≤ s.rxFifo.length →
    (prefixOf s.rxFifo s.seq = .ack →
      exec .poll s = exec .onAck { s with rxFifo := [], lastOutcome := some .ack }) ∧
    (∀ got, prefixOf s.rxFifo s.seq = .nack got →
      exec .poll s = exec (.sendConfirm .nack)
        { s with rxFifo := [], outputs := s.outputs ++ [.logNack s.seq got], lastOutcome := some .nack }) ∧
    (prefixOf s.rxFifo s.seq = .other → exec .poll s = .next { s with rxFifo := [] })

/-- R234, R142: a poll depends on the first 7 bytes of what it reads and on nothing behind them: no CRC, length or payload of
a reply is looked at. -/
def Obligations.PollIgnoresBytesBehindThePrefix : Prop :=
  ∀ (s : State) (b c : List Byte), s.fsm.busy = true → 11 ≤ b.length → 11 ≤ c.length → b.take 7 = c.take 7 →
    exec .poll { s with rxFifo := b } = exec .poll { s with rxFifo := c }

/-! ## Emission, ticks, the wait -/

/-- R144: EMIT in an awaiting state puts the 250 bytes of TXF on the TX stream, sets the clock to zero, and then is a POLL; on
a FIFO of fewer than 11 bytes that is all. -/
def Obligations.EmitSendsTxfThenPolls : Prop :=
  ∀ s : State, s.fsm.busy = true →
    exec .emit s = exec .poll { s with outputs := s.outputs ++ [.txFrame s.txf.toList], tickCnt := 0 } ∧
    (s.rxFifo.length < 11 →
      exec .emit s = .next { s with outputs := s.outputs ++ [.txFrame s.txf.toList], tickCnt := 0 })

/-- R146: TICK outside an awaiting state changes nothing; below the limit it counts and polls; at the limit it records TIMEOUT
and the attempt has failed, without a poll. -/
def Obligations.TickCountsOrTimesOut : Prop :=
  ∀ s : State,
    (s.fsm.busy = false → exec .tick s = .next s) ∧
    (∀ st : Stage, s.fsm = st.fsm → s.tickCnt.toNat + 1 ≠ st.limit →
      exec .tick s = exec .poll { s with tickCnt := s.tickCnt + 1 } ∧
      (s.rxFifo.length < 11 → exec .tick s = .next { s with tickCnt := s.tickCnt + 1 })) ∧
    (∀ st : Stage, s.fsm = st.fsm → s.tickCnt.toNat + 1 = st.limit →
      exec .tick s = exec (.sendConfirm .timeout) { s with lastOutcome := some .timeout })

/-- R212 item 4, R146: a good ACK of a DATA frame that sits in the FIFO at the limit tick is seen only after the timeout has
spent a retry and resent the frame: two frames go out in the one tick, the resend and the next frame, which is the DATA frame
of the next chunk, or the END frame after the last. -/
def Obligations.LateAckIsSeenByTheResend : Prop :=
  ∀ s : State, s.fsm = .awaitDataAck → s.tickCnt.toNat = 99 → s.retryCnt.toNat < 3 → 11 ≤ s.rxFifo.length →
    prefixOf s.rxFifo s.seq = .ack →
    (s.chunkIdx + 1 = s.totalPackets →
      ∃ t f, exec .tick s = .next t ∧ exec (.encode 3#8 (s.seq + 1) []) s = .next { s with answer := .bytes f } ∧
        t = { s with
          fsm := .awaitEndAck, seq := s.seq + 1, chunkIdx := s.chunkIdx + 1,
          sentBytes := s.sentBytes + s.curLen.setWidth 24, curLen := 0, retryCnt := 0, tickCnt := 0,
          lastOutcome := some .ack, rxFifo := [], txf := t.txf, crc := t.crc,
          outputs := s.outputs ++ [.txFrame s.txf.toList, .txFrame f] } ∧
        t.txf.toList = f) ∧
    ((s.chunkIdx + 1).toNat < s.totalPackets.toNat → 240 * (s.chunkIdx + 1).toNat < s.payloadLen.toNat →
      ∃ t f chunk, exec .tick s = .next t ∧
        chunk.length = min 240 (s.payloadLen.toNat - 240 * (s.chunkIdx + 1).toNat) ∧
        (∀ i, i < chunk.length → s.payloadByte? (240 * (s.chunkIdx + 1).toNat + i) = some (byteAt chunk i)) ∧
        exec (.encode 2#8 (s.seq + 1) chunk) s = .next { s with answer := .bytes f } ∧
        t = { s with
          seq := s.seq + 1, chunkIdx := s.chunkIdx + 1, sentBytes := s.sentBytes + s.curLen.setWidth 24,
          curLen := BitVec.ofNat 8 chunk.length, retryCnt := 0, tickCnt := 0, lastOutcome := some .ack, rxFifo := [],
          txf := t.txf, crc := t.crc, outputs := s.outputs ++ [.txFrame s.txf.toList, .txFrame f] } ∧
        t.txf.toList = f)

/-- R145: with a FIFO below the threshold and the stage's limit of ticks to come, WAIT_FOR_ACK completes with Timeout at the last
of them and takes no event beyond. That the span of R145 is run as one operation over the events to come is the model's
choice, assumption log 14. -/
def Obligations.WaitTimesOutAfterTheLimit : Prop :=
  ∀ (s : State) (st : Stage) (rest : List Event), s.fsm = st.fsm → s.rxFifo.length < 11 →
    s.pending = List.replicate st.limit .tick ++ rest →
    ∃ t, exec .waitForAck s = .next t ∧ t.answer = .waited (some .timeout) ∧ t.lastOutcome = some .timeout ∧
      t.pending = rest

/-- R145, R143: bytes of at least the threshold that begin with the awaited ACK, or with a NACK, end the wait with Ack or
Nack: at elapsed time 0 when they are in the FIFO already, and when the last of them arrive after `n` ticks, `n + 1` below the
limit, at the poll of the tick that follows. What the outcome leads to is ON_ACK's and ATTEMPT_FAILED's; the ACK of END
completes in DONE. That the span of R145 is one operation, takes its events from those to come and ends with the reaction is
the model's choice, assumption log 14. -/
def Obligations.WaitFindsTheAckAtTheNextPoll : Prop :=
  (∀ s : State, s.fsm.busy = true → 11 ≤ s.rxFifo.length →
    (prefixOf s.rxFifo s.seq = .ack →
      exec .waitForAck s = andThen (exec .onAck { s with rxFifo := [], tickCnt := 0, lastOutcome := some .ack })
        fun t => .next { t with answer := .waited (some .ack) }) ∧
    (∀ got, prefixOf s.rxFifo s.seq = .nack got →
      exec .waitForAck s = andThen (exec (.sendConfirm .nack) { s with
          rxFifo := [], tickCnt := 0, lastOutcome := some .nack, outputs := s.outputs ++ [.logNack s.seq got] })
        fun t => .next { t with answer := .waited (some .nack) })) ∧
  (∀ (s : State) (st : Stage) (n : Nat) (b : List Byte) (rest : List Event), s.fsm = st.fsm → s.rxFifo.length < 11 →
    n + 1 < st.limit → 11 ≤ (s.rxFifo ++ b).length → s.pending = List.replicate n .tick ++ .rxArrive b :: .tick :: rest →
    (prefixOf (s.rxFifo ++ b) s.seq = .ack →
      exec .waitForAck s = andThen (exec .onAck { s with
          rxFifo := [], tickCnt := BitVec.ofNat 8 (n + 1), lastOutcome := some .ack, pending := rest })
        fun t => .next { t with answer := .waited (some .ack) }) ∧
    (∀ got, prefixOf (s.rxFifo ++ b) s.seq = .nack got →
      exec .waitForAck s = andThen (exec (.sendConfirm .nack) { s with
          rxFifo := [], tickCnt := BitVec.ofNat 8 (n + 1), lastOutcome := some .nack, pending := rest,
          outputs := s.outputs ++ [.logNack s.seq got] })
        fun t => .next { t with answer := .waited (some .nack) }) ∧
    (st = .final → prefixOf (s.rxFifo ++ b) s.seq = .ack →
      exec .waitForAck s = .next { s with
        fsm := .done, rxFifo := [], tickCnt := BitVec.ofNat 8 (n + 1), lastOutcome := some .ack, pending := rest,
        answer := .waited (some .ack) }))

/-- R237: with fewer ticks to come than the limit, and nothing else, the wait is still running when they are spent: no outcome,
the same state but for the clock (what WAIT_FOR_ACK then returns is the model's choice, assumption log 14). -/
def Obligations.WaitWithoutTicksStaysRunning : Prop :=
  ∀ (s : State) (st : Stage) (n : Nat), s.fsm = st.fsm → s.rxFifo.length < 11 → n < st.limit →
    s.pending = List.replicate n .tick →
    exec .waitForAck s = .next { s with tickCnt := BitVec.ofNat 8 n, pending := [], answer := .waited none }

/-! ## Outcomes -/

/-- R172: on Ack in AWAIT_START_ACK the reaction is SEND_END if there are no packets, else SEND_DATA(0); on a FIFO below the
threshold it completes in the state of the frame sent, for a session whose first chunk PAYLOAD has. -/
def Obligations.AckOfStartSendsFirstFrame : Prop :=
  ∀ s : State, s.fsm = .awaitStartAck →
    (s.totalPackets = 0 → exec .onAck s = exec .sendEnd s) ∧
    (s.totalPackets ≠ 0 → exec .onAck s = exec (.sendData 0) s) ∧
    (s.totalPackets.toNat = packetsFor s.payloadLen.toNat → s.rxFifo.length < 11 →
      ∃ t, exec .onAck s = .next t ∧ t.seq = s.seq + 1 ∧ t.chunkIdx = s.chunkIdx ∧ t.sentBytes = s.sentBytes ∧
        t.fsm = (if s.totalPackets = 0 then .awaitEndAck else .awaitDataAck) ∧
        t.outputs = s.outputs ++ [.txFrame t.txf.toList])

/-- R174: on Ack in AWAIT_DATA_ACK the chunk's bytes and the chunk are counted, then SEND_END after the last chunk, else
SEND_DATA of the next; on a FIFO below the threshold, in a session whose registers agree, it completes. -/
def Obligations.AckOfDataCountsThenSendsNext : Prop :=
  ∀ s : State, s.fsm = .awaitDataAck →
    (s.chunkIdx + 1 = s.totalPackets →
      exec .onAck s = exec .sendEnd
        { s with sentBytes := s.sentBytes + s.curLen.setWidth 24, chunkIdx := s.chunkIdx + 1 }) ∧
    (s.chunkIdx + 1 ≠ s.totalPackets →
      exec .onAck s = exec (.sendData (s.chunkIdx + 1))
        { s with sentBytes := s.sentBytes + s.curLen.setWidth 24, chunkIdx := s.chunkIdx + 1 }) ∧
    (SessionInv s → s.rxFifo.length < 11 →
      ∃ t, exec .onAck s = .next t ∧ t.chunkIdx.toNat = s.chunkIdx.toNat + 1 ∧
        t.sentBytes.toNat = s.sentBytes.toNat + s.curLen.toNat ∧
        t.outputs = s.outputs ++ [.txFrame t.txf.toList])

/-- R176: on Ack in AWAIT_END_ACK the session is done, nothing is emitted and nothing else changes; in a session whose
registers agree every payload byte is then confirmed. -/
def Obligations.AckOfEndIsDone : Prop :=
  ∀ s : State, s.fsm = .awaitEndAck →
    exec .onAck s = .next { s with fsm := .done } ∧ State.sessionResult { s with fsm := .done } = .success ∧
    (SessionInv s → s.sentBytes = s.payloadLen)

/-- R148: while the stage's budget lasts, ATTEMPT_FAILED counts a retry and emits the same TXF again; nothing is rebuilt. On
a FIFO below the threshold that is all. -/
def Obligations.FailedAttemptResendsTheSameFrame : Prop :=
  ∀ (s : State) (cause : FailCause), s.fsm = .awaitDataAck → s.retryCnt.toNat < 3 →
    exec (.sendConfirm cause) s = exec .emit { s with retryCnt := s.retryCnt + 1 } ∧
    (s.rxFifo.length < 11 →
      exec (.sendConfirm cause) s = .next { s with
        retryCnt := s.retryCnt + 1, tickCnt := 0, outputs := s.outputs ++ [.txFrame s.txf.toList] })

/-- R148, R141: with the budget spent ATTEMPT_FAILED is FAIL: at the first failed attempt of START and of END, and after
three resends of a DATA frame. -/
def Obligations.FailedAttemptWithoutBudgetFails : Prop :=
  ∀ (s : State) (st : Stage) (cause : FailCause), s.fsm = st.fsm → st.budget ≤ s.retryCnt.toNat →
    exec (.sendConfirm cause) s = exec (.fail cause) s

/-- R149, R213: FAIL writes the stage, the index (the sequence of a DATA frame, else 0), the cause and FAILED, emits nothing
and changes nothing else; the session's error is then TransferAborted with that stage, that index and that cause. -/
def Obligations.FailRecordsStageIndexAndCause : Prop :=
  ∀ (s : State) (cause : FailCause),
    (s.fsm = .awaitStartAck → exec (.fail cause) s = .next { s with
      fsm := .failed, failStage := some .start, failIndex := 0, failCause := some cause }) ∧
    (s.fsm = .awaitDataAck → exec (.fail cause) s = .next { s with
      fsm := .failed, failStage := some .data, failIndex := s.seq, failCause := some cause }) ∧
    (s.fsm = .awaitEndAck → exec (.fail cause) s = .next { s with
      fsm := .failed, failStage := some .final, failIndex := 0, failCause := some cause }) ∧
    (∀ t, exec (.fail cause) s = .next t →
      ∃ st, t.sessionResult.error? = some (.transferAborted st t.failIndex cause) ∧ s.fsm = st.fsm)

/-- Assumption log 10, the model's choice: outside an awaiting state the steps whose rules speak of awaiting states only are
refused by name. -/
def Obligations.SequencerStepsNeedAnAwaitingState : Prop :=
  ∀ (s : State) (cause : FailCause), s.fsm.busy = false →
    exec .poll s = .refused (.notAwaiting s.fsm) ∧ exec .emit s = .refused (.notAwaiting s.fsm) ∧
    exec .waitForAck s = .refused (.notAwaiting s.fsm) ∧ exec .onAck s = .refused (.notAwaiting s.fsm) ∧
    exec (.sendConfirm cause) s = .refused (.notAwaiting s.fsm) ∧ exec (.fail cause) s = .refused (.notAwaiting s.fsm)

/-! ## The session -/

/-- R173: SEND_DATA(k), for a chunk of the session: the next sequence, the chunk's bytes read from PAYLOAD, the DATA frame
that ENCODE builds of them in TXF, its wait's state, and EMIT; on a FIFO below the threshold it completes with the frame on
the TX stream and the clock at zero. That the scratch register crc is left at the frame's CRC (R33) is the model's choice,
assumption log 7. -/
def Obligations.SendDataEmitsTheChunk : Prop :=
  ∀ (s : State) (k : U16), k.toNat < s.totalPackets.toNat → 240 * k.toNat < s.payloadLen.toNat →
    ∃ u chunk f, chunk.length = min 240 (s.payloadLen.toNat - 240 * k.toNat) ∧
      (∀ i, i < chunk.length → s.payloadByte? (240 * k.toNat + i) = some (byteAt chunk i)) ∧
      exec (.encode 2#8 (s.seq + 1) chunk) s = .next { s with answer := .bytes f } ∧
      u = { s with
        fsm := .awaitDataAck, seq := s.seq + 1, curLen := BitVec.ofNat 8 chunk.length, retryCnt := 0, txf := u.txf,
        crc := crc16 (f.take 248) } ∧
      u.txf.toList = f ∧ exec (.sendData k) s = exec .emit u ∧
      (s.rxFifo.length < 11 →
        exec (.sendData k) s = .next { u with outputs := s.outputs ++ [.txFrame f], tickCnt := 0 })

/-- R51, R173, assumption logs 9 and 10: SEND_DATA of a chunk the session does not have is refused; where the first address
of a chunk lies outside PAYLOAD the read is the model's fault. -/
def Obligations.SendDataOutsideTheSessionStops : Prop :=
  ∀ (s : State) (k : U16),
    (s.totalPackets.toNat ≤ k.toNat → exec (.sendData k) s = .refused (.noSuchChunk k)) ∧
    (k.toNat < s.totalPackets.toNat → s.payloadLen.toNat ≤ 240 * k.toNat →
      exec (.sendData k) s = .fault (.payloadOutOfRange (240 * k.toNat)))

/-- R175: SEND_END: the next sequence, the END frame with no body in TXF, its wait's state, and EMIT; on a FIFO below the
threshold it completes with the frame on the TX stream and the clock at zero. That the scratch register crc is left at the
frame's CRC (R33) is the model's choice, assumption log 7. -/
def Obligations.SendEndEmitsTheEmptyFrame : Prop :=
  ∀ s : State, ∃ u f, exec (.encode 3#8 (s.seq + 1) []) s = .next { s with answer := .bytes f } ∧
    u = { s with
      fsm := .awaitEndAck, seq := s.seq + 1, curLen := 0, retryCnt := 0, txf := u.txf, crc := crc16 (f.take 248) } ∧
    u.txf.toList = f ∧ exec .sendEnd s = exec .emit u ∧
    (s.rxFifo.length < 11 → exec .sendEnd s = .next { u with outputs := s.outputs ++ [.txFrame f], tickCnt := 0 })

/-- R170, R171: SEND_IMAGE outside an awaiting state with at most 15 728 400 bytes is accepted: the session registers are
written, PAYLOAD holds the argument's bytes below its length and has none beyond, the START frame with the identifier and
the packet count is in TXF, and EMIT follows; on a FIFO below the threshold it completes with the frame on the TX stream.
The model's choices: the scratch register crc is left at the frame's CRC (R33, assumption log 7), and the argument is a list
of cells in which an unlisted address below the length holds 0 (assumption log 8). -/
def Obligations.SendImageStartsASession : Prop :=
  ∀ (s : State) (id : U16) (n : Nat) (cells : List Host.Cell), s.fsm.busy = false → n ≤ 15728400 →
    ∃ u f, exec (.encode 1#8 0 [id.extractLsb' 0 8, id.extractLsb' 8 8, BitVec.ofNat 8 ((n + 239) / 240),
        BitVec.ofNat 8 ((n + 239) / 240 / 256)]) s = .next { s with answer := .bytes f } ∧
      u = { s with
        fsm := .awaitStartAck, seq := 0, imageId := id, payloadLen := BitVec.ofNat 24 n,
        totalPackets := BitVec.ofNat 16 ((n + 239) / 240), chunkIdx := 0, sentBytes := 0, retryCnt := 0,
        curLen := 4, lastOutcome := none, failStage := none, failIndex := 0, failCause := none, txf := u.txf,
        crc := crc16 (f.take 248), payload := u.payload, answer := .accepted } ∧
      u.txf.toList = f ∧ u.payloadLen.toNat = n ∧ u.totalPackets.toNat = (n + 239) / 240 ∧
      (∀ a, a < n → u.payloadByte? a = some (Memory.read cells a)) ∧ (∀ a, n ≤ a → u.payloadByte? a = none) ∧
      exec (.sendImage id n cells) s = exec .emit u ∧
      (s.rxFifo.length < 11 →
        exec (.sendImage id n cells) s = .next { u with outputs := s.outputs ++ [.txFrame f], tickCnt := 0 })

/-- R170, R207, R208, R212 item 5: SEND_IMAGE in an awaiting state returns Busy, whatever its length; else a payload over
15 728 400 bytes returns SessionTooLarge; in both cases nothing else changes. -/
def Obligations.SendImageTurnedAwayChangesNothing : Prop :=
  ∀ (s : State) (id : U16) (n : Nat) (cells : List Host.Cell),
    (s.fsm.busy = true → exec (.sendImage id n cells) s = .next { s with answer := .error .busy }) ∧
    (s.fsm.busy = false → 15728400 < n →
      exec (.sendImage id n cells) s = .next { s with answer := .error .sessionTooLarge })

/-- R238, R239: an ACK with sequence 0 left in the FIFO confirms the START frame in the very step that emits it: the START
frame and the frame after it go out in one SEND_IMAGE, for every accepted length. That frame is the DATA frame of the first
chunk, or the END frame of an empty session. That the argument is a list of cells in which an unlisted address below the
length holds 0 is the model's choice, assumption log 8. -/
def Obligations.StaleAckConfirmsStartAtOnce : Prop :=
  ∀ (s : State) (id : U16) (n : Nat) (cells : List Host.Cell), s.fsm.busy = false → n ≤ 15728400 →
    11 ≤ s.rxFifo.length → prefixOf s.rxFifo 0 = .ack →
    ∃ t f g, exec (.sendImage id n cells) s = .next t ∧
      exec (.encode 1#8 0 [id.extractLsb' 0 8, id.extractLsb' 8 8, BitVec.ofNat 8 ((n + 239) / 240),
        BitVec.ofNat 8 ((n + 239) / 240 / 256)]) s = .next { s with answer := .bytes f } ∧
      (n = 0 → exec (.encode 3#8 1 []) s = .next { s with answer := .bytes g } ∧ t.fsm = .awaitEndAck ∧ t.curLen = 0) ∧
      (0 < n → ∃ chunk, chunk.length = min 240 n ∧
        (∀ i, i < chunk.length → byteAt chunk i = Memory.read cells i) ∧
        exec (.encode 2#8 1 chunk) s = .next { s with answer := .bytes g } ∧ t.fsm = .awaitDataAck ∧
        t.curLen.toNat = chunk.length) ∧
      t = { s with
        fsm := t.fsm, seq := 1, imageId := id, payloadLen := BitVec.ofNat 24 n,
        totalPackets := BitVec.ofNat 16 ((n + 239) / 240), chunkIdx := 0, sentBytes := 0, retryCnt := 0, tickCnt := 0,
        curLen := t.curLen, lastOutcome := some .ack, failStage := none, failIndex := 0, failCause := none, txf := t.txf,
        crc := t.crc, payload := t.payload, rxFifo := [], answer := .accepted,
        outputs := s.outputs ++ [.txFrame f, .txFrame g] } ∧
      t.txf.toList = g ∧ t.payloadLen.toNat = n ∧ (∀ a, a < n → t.payloadByte? a = some (Memory.read cells a))

/-! ## The wire commands -/

/-- R180, R181, R182: START, DATA and END as frames to the peer, with the length of their command (4, 1 to 240, 0): the
sequence in seq, the body's length in cur_len, the frame ENCODE builds of them in TXF, no resend counted, the wait's state of
its stage, and EMIT; on a FIFO below the threshold each completes with the frame on the TX stream. With any other length the
sequencer never emits the frame and it is refused (R84). The model's choices: the operand form (assumption logs 3 and 22), and
the scratch register crc left at the frame's CRC (R33, assumption log 7). -/
def Obligations.SentFramesGoOutAndAwait : Prop :=
  ∀ (s : State) (q : U16) (len : Byte) (pl : List Byte) (r : U16) (st : Stage) (cmd : Byte) (lo hi : Nat) (i : Instr),
    (st, cmd, lo, hi, i) ∈ [(Stage.start, 1#8, 4, 4, Instr.startFrame .toPeer q len pl r),
      (Stage.data, 2#8, 1, 240, Instr.dataFrame .toPeer q len pl r),
      (Stage.final, 3#8, 0, 0, Instr.endFrame .toPeer q len pl r)] →
    (lo ≤ len.toNat ∧ len.toNat ≤ hi → pl.length = 240 →
      ∃ u f, exec (.encode cmd q (pl.take len.toNat)) s = .next { s with answer := .bytes f } ∧
        u = { s with
          fsm := st.fsm, seq := q, curLen := len, retryCnt := 0, txf := u.txf, crc := crc16 (f.take 248) } ∧
        u.txf.toList = f ∧ exec i s = exec .emit u ∧
        (s.rxFifo.length < 11 →
          exec i s = .next { u with outputs := s.outputs ++ [.txFrame f], tickCnt := 0 })) ∧
    (¬ (lo ≤ len.toNat ∧ len.toNat ≤ hi) → exec i s = .refused (.lengthNeverSent cmd len))

/-- R180, R181, R182, R142: START, DATA and END received are other content: with an empty FIFO and below the wait's limit the
tick that follows consumes them and only counts; outside an awaiting state they stay in the FIFO. In every state a received
frame is an arrival of its 250 bytes and a tick (assumption log 2). -/
def Obligations.ReceivedStartDataEndAreOtherContent : Prop :=
  ∀ (s : State) (st : Stage) (q : U16) (len : Byte) (pl : List Byte) (r : U16), pl.length = 240 →
    (s.fsm = st.fsm → s.tickCnt.toNat + 1 ≠ st.limit → s.rxFifo = [] →
      exec (.startFrame .toBlock q len pl r) s = .next { s with tickCnt := s.tickCnt + 1 } ∧
      exec (.dataFrame .toBlock q len pl r) s = .next { s with tickCnt := s.tickCnt + 1 } ∧
      exec (.endFrame .toBlock q len pl r) s = .next { s with tickCnt := s.tickCnt + 1 }) ∧
    (∀ i, i ∈ [Instr.startFrame .toBlock q len pl r, Instr.dataFrame .toBlock q len pl r,
        Instr.endFrame .toBlock q len pl r] →
      ∃ b, encode i = some (.frame .toBlock b) ∧ exec i s = exec .tick { s with rxFifo := s.rxFifo ++ b } ∧
        (s.fsm.busy = false → exec i s = .next { s with rxFifo := s.rxFifo ++ b }))

/-- R183, R154: an ACK frame that reaches an empty FIFO below the wait's limit: with the awaited sequence it is the tick,
ACK recorded and ON_ACK, which for the END frame completes in DONE; with another it is only the tick. Its length, payload
and CRC play no part. In every state it is an arrival of its 250 bytes and a tick (assumption log 2). -/
def Obligations.AckFrameConfirmsItsSequenceOnly : Prop :=
  ∀ (s : State) (q : U16) (len : Byte) (pl : List Byte) (r : U16), pl.length = 240 →
    (∃ b, encode (.ackFrame q len pl r) = some (.frame .toBlock b) ∧
      exec (.ackFrame q len pl r) s = exec .tick { s with rxFifo := s.rxFifo ++ b }) ∧
    (∀ st : Stage, s.fsm = st.fsm → s.tickCnt.toNat + 1 ≠ st.limit → s.rxFifo = [] →
      (q = s.seq → exec (.ackFrame q len pl r) s
        = exec .onAck { s with tickCnt := s.tickCnt + 1, lastOutcome := some .ack }) ∧
      (q = s.seq → st = .final → exec (.ackFrame q len pl r) s
        = .next { s with tickCnt := s.tickCnt + 1, lastOutcome := some .ack, fsm := .done }) ∧
      (q ≠ s.seq → exec (.ackFrame q len pl r) s = .next { s with tickCnt := s.tickCnt + 1 }))

/-- R184, R153: a NACK frame that reaches an empty FIFO below the wait's limit fails the attempt at once whatever its
sequence, and is logged with both sequences: a DATA frame with budget left is sent again, any other fails the session. In
every state it is an arrival of its 250 bytes and a tick (assumption log 2). -/
def Obligations.NackFrameSpendsARetry : Prop :=
  ∀ (s : State) (q : U16) (len : Byte) (pl : List Byte) (r : U16), pl.length = 240 →
    (∃ b, encode (.nackFrame q len pl r) = some (.frame .toBlock b) ∧
      exec (.nackFrame q len pl r) s = exec .tick { s with rxFifo := s.rxFifo ++ b }) ∧
    (s.rxFifo = [] → s.fsm = .awaitDataAck → s.tickCnt.toNat + 1 ≠ 100 → s.retryCnt.toNat < 3 →
      exec (.nackFrame q len pl r) s = .next { s with
        retryCnt := s.retryCnt + 1, tickCnt := 0, lastOutcome := some .nack,
        outputs := s.outputs ++ [.logNack s.seq q, .txFrame s.txf.toList] }) ∧
    (s.rxFifo = [] → s.fsm = .awaitDataAck → s.tickCnt.toNat + 1 ≠ 100 → s.retryCnt = 3 →
      exec (.nackFrame q len pl r) s = .next { s with
        fsm := .failed, failStage := some .data, failIndex := s.seq, failCause := some .nack,
        tickCnt := s.tickCnt + 1, lastOutcome := some .nack, outputs := s.outputs ++ [.logNack s.seq q] }) ∧
    (∀ st : Stage, s.rxFifo = [] → s.fsm = st.fsm → st ≠ .data → s.tickCnt.toNat + 1 ≠ 200 →
      exec (.nackFrame q len pl r) s = .next { s with
        fsm := .failed, failStage := some st, failIndex := 0, failCause := some .nack,
        tickCnt := s.tickCnt + 1, lastOutcome := some .nack, outputs := s.outputs ++ [.logNack s.seq q] })

/-! ## Whole-machine rules -/

/-- R39 items 1 to 6, R34: every step keeps the session invariant: the counters, the sequence, the frame in TXF and the clock
agree in each awaiting state, at DONE and at FAILED. Item 7, on the number of a session's frames, is no property of one state
and is left out. The clause that PAYLOAD stays in canonical form is the model's own, of the representation it chose
(assumption log 8). -/
def Obligations.EveryStepKeepsTheSessionInvariant : Prop :=
  ∀ s t : State, SessionInv s → step s = .next t → SessionInv t

/-- R38, R39: the reset state has the session invariant. Its clause on PAYLOAD rests on the model's choices that PAYLOAD is a
canonical list of cells (assumption log 8) and is empty at reset (assumption log 16). -/
def Obligations.ResetHasTheSessionInvariant : Prop := SessionInv State.reset

/-- R51, R177: in every state with the session invariant, a step never faults, and it completes whenever the event presented
next meets the host's preconditions (R121): no ordinary data stops the machine. -/
def Obligations.StepsCompleteUnderTheInvariant : Prop :=
  ∀ s : State, SessionInv s → NeverFaults s ∧
    ((∀ e ∈ s.pending.head?, EventOk e) → ∃ t, step s = .next t)

/-- R151, R62: a step only appends to the output events, and appends at most two frames. -/
def Obligations.OneStepEmitsAtMostTwoFrames : Prop :=
  ∀ s t : State, step s = .next t →
    ∃ new, t.outputs = s.outputs ++ new ∧ (framesOf new).length ≤ 2

/-- R50, R235: no step but an accepted SEND_IMAGE changes a byte of PAYLOAD. -/
def Obligations.PayloadIsReadOnlyToTheBlock : Prop :=
  ∀ s t : State, step s = .next t →
    (∀ r rest, s.pending = .hostReq r :: rest → r.op = 3#2 → s.fsm.busy = true ∨ 15728400 < r.payloadLen) →
    ∀ a, Memory.read t.payload a = Memory.read s.payload a

/-- R150: IDLE, DONE and FAILED are left only by an accepted SEND_IMAGE or a hardware reset. -/
def Obligations.RestingStatesAreLeftOnlyByANewSession : Prop :=
  ∀ s t : State, step s = .next t → s.fsm.busy = false → t.fsm ≠ s.fsm →
    (∃ rest, s.pending = .reset :: rest) ∨
      ∃ r rest, s.pending = .hostReq r :: rest ∧ r.op = 3#2 ∧ r.payloadLen ≤ 15728400

/-- R150: a session only goes forward: from each awaiting state a step that is no reset leads to that state, a later one of
the table within one acknowledgement, or FAILED. -/
def Obligations.AwaitingStatesOnlyGoForward : Prop :=
  ∀ s t : State, step s = .next t → (∀ rest, s.pending ≠ .reset :: rest) →
    (s.fsm = .awaitStartAck → t.fsm ∈ [.awaitStartAck, .awaitDataAck, .awaitEndAck, .failed]) ∧
    (s.fsm = .awaitDataAck → t.fsm ∈ [.awaitDataAck, .awaitEndAck, .failed]) ∧
    (s.fsm = .awaitEndAck → t.fsm ∈ [.awaitEndAck, .done, .failed])

/-- R236, R237: no host request and no arrival ends or advances a wait: without a tick (alone or with a frame) or a reset an
awaiting state stays, with its clock, its sequence and its frame. -/
def Obligations.OnlyTicksEndAWait : Prop :=
  ∀ s t : State, step s = .next t → s.fsm.busy = true →
    (∀ rest, s.pending ≠ .tick :: rest) → (∀ b rest, s.pending ≠ .frameAtTick b :: rest) →
    (∀ rest, s.pending ≠ .reset :: rest) →
    t = { s with rxFifo := t.rxFifo, answer := t.answer, pending := t.pending }

/-- R24, R152: within a session the sequence number changes by one at a time, and the frame with it: a step that is neither
an accepted SEND_IMAGE nor a reset leaves seq, and with it the frame in TXF and the counts of what is confirmed, or adds one
to seq modulo 65536, and TXF then holds the frame of the new seq: the DATA frame of chunk 0 after START, of the next chunk
after DATA, or the END frame after the last chunk. -/
def Obligations.SequenceAdvancesByOneWithTheFrame : Prop :=
  ∀ s t : State, step s = .next t → (∀ rest, s.pending ≠ .reset :: rest) →
    (∀ r rest, s.pending = .hostReq r :: rest → r.op = 3#2 → s.fsm.busy = true ∨ 15728400 < r.payloadLen) →
    (t.seq = s.seq ∧ t.txf = s.txf ∧ t.curLen = s.curLen ∧ t.chunkIdx = s.chunkIdx ∧ t.sentBytes = s.sentBytes) ∨
    (t.seq = s.seq + 1 ∧
      ((t.fsm = .awaitDataAck ∧ ∃ k : U16, k.toNat < t.totalPackets.toNat ∧
          ((s.fsm = .awaitStartAck ∧ k = 0 ∧ t.chunkIdx = s.chunkIdx) ∨
            (s.fsm = .awaitDataAck ∧ k = s.chunkIdx + 1 ∧ t.chunkIdx = s.chunkIdx + 1)) ∧
          exec (.encode 2#8 t.seq (t.chunkBytes k.toNat)) t = .next { t with answer := .bytes t.txf.toList }) ∨
        (t.fsm = .awaitEndAck ∧
          ((s.fsm = .awaitStartAck ∧ t.totalPackets = 0 ∧ t.chunkIdx = s.chunkIdx) ∨
            (s.fsm = .awaitDataAck ∧ s.chunkIdx + 1 = t.totalPackets ∧ t.chunkIdx = s.chunkIdx + 1)) ∧
          exec (.encode 3#8 t.seq []) t = .next { t with answer := .bytes t.txf.toList })))

/-- R155: with a silent peer the START frame is emitted once and the session fails at START at the 200th tick: 200 ticks from
the emission, on a FIFO below the threshold, lead to FAILED with cause TIMEOUT and no further frame. -/
def Obligations.SilentPeerFailsStartAtTick200 : Prop :=
  ∀ (s : State) (rest : List Event), s.fsm = .awaitStartAck → s.tickCnt = 0 → s.rxFifo.length < 11 →
    s.pending = List.replicate 200 .tick ++ rest →
    stepTimes 200 s = .next { s with
      fsm := .failed, tickCnt := 199, lastOutcome := some .timeout, failStage := some .start, failIndex := 0,
      failCause := some .timeout, pending := rest }

/-- R155: a DATA frame that is never acknowledged is emitted three more times, 100 ticks apart, and the session fails at its
stage at the 400th tick after its first emission. At every tick before, number `100 * j + m`, exactly `j` copies have gone
out, `j` resends are counted and the clock stands at `m`. -/
def Obligations.UnansweredDataFailsAtTick400 : Prop :=
  ∀ (s : State) (rest : List Event), s.fsm = .awaitDataAck → s.tickCnt = 0 → s.retryCnt = 0 → s.rxFifo.length < 11 →
    s.pending = List.replicate 400 .tick ++ rest →
    (∀ j m, j ≤ 3 → m < 100 →
      stepTimes (100 * j + m) s = .next { s with
        tickCnt := BitVec.ofNat 8 m, retryCnt := BitVec.ofNat 2 j,
        lastOutcome := if j = 0 then s.lastOutcome else some .timeout,
        pending := List.replicate (400 - (100 * j + m)) .tick ++ rest,
        outputs := s.outputs ++ List.replicate j (.txFrame s.txf.toList) }) ∧
    stepTimes 400 s = .next { s with
      fsm := .failed, tickCnt := 99, retryCnt := 3, lastOutcome := some .timeout, failStage := some .data,
      failIndex := s.seq, failCause := some .timeout, pending := rest,
      outputs := s.outputs ++ [.txFrame s.txf.toList, .txFrame s.txf.toList, .txFrame s.txf.toList] }
end

