-- ==== Sys2Proof/Laws/Codec.lean ====
section
/-! SUPPORT. The Frame Codec's and the CRC unit's functions: lengths, field values, the round trip of a field. -/

namespace Sys2Proof.Machine

@[simp] theorem bytesLE16_length (v : U16) : (bytesLE16 v).length = 2 := rfl
@[simp] theorem bytesLE32_length (v : U32) : (bytesLE32 v).length = 4 := rfl
@[simp] theorem startBody_length (a b : U16) : (startBody a b).length = 4 := rfl

/-- A u16 is put together again from its two bytes (R10, R82). -/
@[simp] theorem le16_lowByte_highByte (v : U16) : le16 (lowByte v) (highByte v) = v := by
  apply BitVec.eq_of_getLsbD_eq
  intro i hi
  simp only [le16, lowByte, highByte, BitVec.getLsbD_append, BitVec.getLsbD_extractLsb']
  by_cases h : i < 8
  · simp [h]
  · have : i - 8 < 8 := by omega
    simp [h, this, show 8 + (i - 8) = i by omega]

/-- le16 is `b[0] + 256*b[1]` (R10). -/
theorem le16_toNat (lo hi : Byte) : (le16 lo hi).toNat = lo.toNat + 256 * hi.toNat := by
  rw [le16, BitVec.toNat_append, ← Nat.shiftLeft_add_eq_or_of_lt lo.isLt, Nat.shiftLeft_eq]
  omega

/-- The padded payload is 240 bytes for every body a frame can carry (R75). -/
theorem padBody_length {body : List Byte} (h : body.length ≤ 240) : (padBody body).length = 240 := by
  simp [padBody, Config.chunk]; omega

theorem frameCovered_length (c : Byte) (q : U16) (l : Byte) (p : List Byte) :
    (frameCovered c q l p).length = 8 + p.length := by
  simp [frameCovered]; omega

/-- The CRC covers 248 bytes (R76). -/
theorem coveredBytes_length (c : Byte) (q : U16) {body : List Byte} (h : body.length ≤ 240) :
    (coveredBytes c q body).length = 248 := by
  rw [coveredBytes, frameCovered_length, padBody_length h]

/-- Every frame the encoder builds is 250 bytes (R70, R122). -/
theorem encodeFrame_length (c : Byte) (q : U16) {body : List Byte} (h : body.length ≤ 240) :
    (encodeFrame c q body).length = 250 := by
  simp [encodeFrame, coveredBytes_length c q h]

theorem frameImage_length (c : Byte) (q : U16) (l : Byte) (p : List Byte) (r : U16) :
    (frameImage c q l p r).length = 10 + p.length := by
  simp [frameImage, frameCovered_length]; omega

/-- The frame buffer holds a 250-byte string as it is (R32). -/
theorem frameBuffer_toList {f : List Byte} (h : f.length = 250) : (frameBuffer f).toList = f := by
  simp [frameBuffer, Vector.toList, h, List.take_of_length_le]

/-- The frame buffer after a build holds the frame (R123). -/
theorem frameBuffer_encodeFrame (c : Byte) (q : U16) {body : List Byte} (h : body.length ≤ 240) :
    (frameBuffer (encodeFrame c q body)).toList = encodeFrame c q body :=
  frameBuffer_toList (encodeFrame_length c q h)

/-- The fields at the head of a frame image, read back at their offsets (R82). -/
theorem frameImage_fields (c : Byte) (q : U16) (l : Byte) (p : List Byte) (r : U16) :
    headerOf (frameImage c q l p r) = Config.magic ∧ byteAt (frameImage c q l p r) 4 = c ∧
      u16At (frameImage c q l p r) 5 = q ∧ byteAt (frameImage c q l p r) 7 = l := by
  have hm : le32 (Config.magic.extractLsb' 0 8) (Config.magic.extractLsb' 8 8) (Config.magic.extractLsb' 16 8)
      (Config.magic.extractLsb' 24 8) = Config.magic := by decide
  exact ⟨hm, rfl, le16_lowByte_highByte q, rfl⟩

/-- The payload field and the trailer of a frame image, read back (R82). -/
theorem frameImage_tail (c : Byte) (q : U16) (l : Byte) {p : List Byte} (r : U16) (h : p.length = 240) :
    payloadField (frameImage c q l p r) = p ∧ u16At (frameImage c q l p r) 248 = r := by
  have hc : (frameCovered c q l p).length = 248 := by rw [frameCovered_length, h]
  constructor
  · have : frameImage c q l p r
        = (bytesLE32 Config.magic ++ [c] ++ bytesLE16 q ++ [l]) ++ (p ++ bytesLE16 r) := by
      simp [frameImage, frameCovered]
    rw [this, payloadField, List.drop_left' (by rfl), List.take_left' (by simp [h, Config.chunk])]
  · have h0 : byteAt (frameImage c q l p r) 248 = lowByte r := by
      simp [byteAt, frameImage, List.getD_eq_getElem?_getD, hc, bytesLE16]
    have h1 : byteAt (frameImage c q l p r) 249 = highByte r := by
      simp [byteAt, frameImage, List.getD_eq_getElem?_getD, hc, bytesLE16]
    rw [u16At, h0, h1, le16_lowByte_highByte]

@[simp] theorem crcStream_nil (c : U16) : crcStream c [] = c := rfl
@[simp] theorem crcStream_cons (c : U16) (b : Byte) (m : List Byte) :
    crcStream c (b :: m) = crcStream (crcByteStep c b) m := rfl
theorem crcStream_append (c : U16) (m n : List Byte) : crcStream c (m ++ n) = crcStream (crcStream c m) n := by
  simp [crcStream]

end Sys2Proof.Machine
end

