-- ==== Sys2Proof/Laws/State.lean ====
section
/-! SUPPORT. One lemma per field per named update of State, each true by unfolding, so that no later proof unfolds a record
update; and the fields of the reset state. -/

namespace Sys2Proof.Machine

/-! `State.rxArrive` -/

section
variable (s : State) (b : List Byte)

@[simp] theorem State.rxArrive_fsm : (s.rxArrive b).fsm = s.fsm := rfl
@[simp] theorem State.rxArrive_chunkIdx : (s.rxArrive b).chunkIdx = s.chunkIdx := rfl
@[simp] theorem State.rxArrive_seq : (s.rxArrive b).seq = s.seq := rfl
@[simp] theorem State.rxArrive_imageId : (s.rxArrive b).imageId = s.imageId := rfl
@[simp] theorem State.rxArrive_payloadLen : (s.rxArrive b).payloadLen = s.payloadLen := rfl
@[simp] theorem State.rxArrive_totalPackets : (s.rxArrive b).totalPackets = s.totalPackets := rfl
@[simp] theorem State.rxArrive_curLen : (s.rxArrive b).curLen = s.curLen := rfl
@[simp] theorem State.rxArrive_sentBytes : (s.rxArrive b).sentBytes = s.sentBytes := rfl
@[simp] theorem State.rxArrive_retryCnt : (s.rxArrive b).retryCnt = s.retryCnt := rfl
@[simp] theorem State.rxArrive_tickCnt : (s.rxArrive b).tickCnt = s.tickCnt := rfl
@[simp] theorem State.rxArrive_lastOutcome : (s.rxArrive b).lastOutcome = s.lastOutcome := rfl
@[simp] theorem State.rxArrive_failStage : (s.rxArrive b).failStage = s.failStage := rfl
@[simp] theorem State.rxArrive_failIndex : (s.rxArrive b).failIndex = s.failIndex := rfl
@[simp] theorem State.rxArrive_failCause : (s.rxArrive b).failCause = s.failCause := rfl
@[simp] theorem State.rxArrive_txf : (s.rxArrive b).txf = s.txf := rfl
@[simp] theorem State.rxArrive_crc : (s.rxArrive b).crc = s.crc := rfl
@[simp] theorem State.rxArrive_rxFifo : (s.rxArrive b).rxFifo = s.rxFifo ++ b := rfl
@[simp] theorem State.rxArrive_outputs : (s.rxArrive b).outputs = s.outputs := rfl
@[simp] theorem State.rxArrive_payload : (s.rxArrive b).payload = s.payload := rfl
@[simp] theorem State.rxArrive_answer : (s.rxArrive b).answer = s.answer := rfl
@[simp] theorem State.rxArrive_pending : (s.rxArrive b).pending = s.pending := rfl

end

/-! `State.rxDrop` -/

section
variable (s : State) (n : Nat)

@[simp] theorem State.rxDrop_fsm : (s.rxDrop n).fsm = s.fsm := rfl
@[simp] theorem State.rxDrop_chunkIdx : (s.rxDrop n).chunkIdx = s.chunkIdx := rfl
@[simp] theorem State.rxDrop_seq : (s.rxDrop n).seq = s.seq := rfl
@[simp] theorem State.rxDrop_imageId : (s.rxDrop n).imageId = s.imageId := rfl
@[simp] theorem State.rxDrop_payloadLen : (s.rxDrop n).payloadLen = s.payloadLen := rfl
@[simp] theorem State.rxDrop_totalPackets : (s.rxDrop n).totalPackets = s.totalPackets := rfl
@[simp] theorem State.rxDrop_curLen : (s.rxDrop n).curLen = s.curLen := rfl
@[simp] theorem State.rxDrop_sentBytes : (s.rxDrop n).sentBytes = s.sentBytes := rfl
@[simp] theorem State.rxDrop_retryCnt : (s.rxDrop n).retryCnt = s.retryCnt := rfl
@[simp] theorem State.rxDrop_tickCnt : (s.rxDrop n).tickCnt = s.tickCnt := rfl
@[simp] theorem State.rxDrop_lastOutcome : (s.rxDrop n).lastOutcome = s.lastOutcome := rfl
@[simp] theorem State.rxDrop_failStage : (s.rxDrop n).failStage = s.failStage := rfl
@[simp] theorem State.rxDrop_failIndex : (s.rxDrop n).failIndex = s.failIndex := rfl
@[simp] theorem State.rxDrop_failCause : (s.rxDrop n).failCause = s.failCause := rfl
@[simp] theorem State.rxDrop_txf : (s.rxDrop n).txf = s.txf := rfl
@[simp] theorem State.rxDrop_crc : (s.rxDrop n).crc = s.crc := rfl
@[simp] theorem State.rxDrop_rxFifo : (s.rxDrop n).rxFifo = s.rxFifo.drop n := rfl
@[simp] theorem State.rxDrop_outputs : (s.rxDrop n).outputs = s.outputs := rfl
@[simp] theorem State.rxDrop_payload : (s.rxDrop n).payload = s.payload := rfl
@[simp] theorem State.rxDrop_answer : (s.rxDrop n).answer = s.answer := rfl
@[simp] theorem State.rxDrop_pending : (s.rxDrop n).pending = s.pending := rfl

end

/-! `State.txWrite` -/

section
variable (s : State)

@[simp] theorem State.txWrite_fsm : (s.txWrite).fsm = s.fsm := rfl
@[simp] theorem State.txWrite_chunkIdx : (s.txWrite).chunkIdx = s.chunkIdx := rfl
@[simp] theorem State.txWrite_seq : (s.txWrite).seq = s.seq := rfl
@[simp] theorem State.txWrite_imageId : (s.txWrite).imageId = s.imageId := rfl
@[simp] theorem State.txWrite_payloadLen : (s.txWrite).payloadLen = s.payloadLen := rfl
@[simp] theorem State.txWrite_totalPackets : (s.txWrite).totalPackets = s.totalPackets := rfl
@[simp] theorem State.txWrite_curLen : (s.txWrite).curLen = s.curLen := rfl
@[simp] theorem State.txWrite_sentBytes : (s.txWrite).sentBytes = s.sentBytes := rfl
@[simp] theorem State.txWrite_retryCnt : (s.txWrite).retryCnt = s.retryCnt := rfl
@[simp] theorem State.txWrite_tickCnt : (s.txWrite).tickCnt = s.tickCnt := rfl
@[simp] theorem State.txWrite_lastOutcome : (s.txWrite).lastOutcome = s.lastOutcome := rfl
@[simp] theorem State.txWrite_failStage : (s.txWrite).failStage = s.failStage := rfl
@[simp] theorem State.txWrite_failIndex : (s.txWrite).failIndex = s.failIndex := rfl
@[simp] theorem State.txWrite_failCause : (s.txWrite).failCause = s.failCause := rfl
@[simp] theorem State.txWrite_txf : (s.txWrite).txf = s.txf := rfl
@[simp] theorem State.txWrite_crc : (s.txWrite).crc = s.crc := rfl
@[simp] theorem State.txWrite_rxFifo : (s.txWrite).rxFifo = s.rxFifo := rfl
@[simp] theorem State.txWrite_outputs : (s.txWrite).outputs = s.outputs ++ [.txFrame s.txf.toList] := rfl
@[simp] theorem State.txWrite_payload : (s.txWrite).payload = s.payload := rfl
@[simp] theorem State.txWrite_answer : (s.txWrite).answer = s.answer := rfl
@[simp] theorem State.txWrite_pending : (s.txWrite).pending = s.pending := rfl

end

/-! `State.logNack` -/

section
variable (s : State) (e g : U16)

@[simp] theorem State.logNack_fsm : (s.logNack e g).fsm = s.fsm := rfl
@[simp] theorem State.logNack_chunkIdx : (s.logNack e g).chunkIdx = s.chunkIdx := rfl
@[simp] theorem State.logNack_seq : (s.logNack e g).seq = s.seq := rfl
@[simp] theorem State.logNack_imageId : (s.logNack e g).imageId = s.imageId := rfl
@[simp] theorem State.logNack_payloadLen : (s.logNack e g).payloadLen = s.payloadLen := rfl
@[simp] theorem State.logNack_totalPackets : (s.logNack e g).totalPackets = s.totalPackets := rfl
@[simp] theorem State.logNack_curLen : (s.logNack e g).curLen = s.curLen := rfl
@[simp] theorem State.logNack_sentBytes : (s.logNack e g).sentBytes = s.sentBytes := rfl
@[simp] theorem State.logNack_retryCnt : (s.logNack e g).retryCnt = s.retryCnt := rfl
@[simp] theorem State.logNack_tickCnt : (s.logNack e g).tickCnt = s.tickCnt := rfl
@[simp] theorem State.logNack_lastOutcome : (s.logNack e g).lastOutcome = s.lastOutcome := rfl
@[simp] theorem State.logNack_failStage : (s.logNack e g).failStage = s.failStage := rfl
@[simp] theorem State.logNack_failIndex : (s.logNack e g).failIndex = s.failIndex := rfl
@[simp] theorem State.logNack_failCause : (s.logNack e g).failCause = s.failCause := rfl
@[simp] theorem State.logNack_txf : (s.logNack e g).txf = s.txf := rfl
@[simp] theorem State.logNack_crc : (s.logNack e g).crc = s.crc := rfl
@[simp] theorem State.logNack_rxFifo : (s.logNack e g).rxFifo = s.rxFifo := rfl
@[simp] theorem State.logNack_outputs : (s.logNack e g).outputs = s.outputs ++ [.logNack e g] := rfl
@[simp] theorem State.logNack_payload : (s.logNack e g).payload = s.payload := rfl
@[simp] theorem State.logNack_answer : (s.logNack e g).answer = s.answer := rfl
@[simp] theorem State.logNack_pending : (s.logNack e g).pending = s.pending := rfl

end

/-! `State.returning` -/

section
variable (s : State) (a : Returned)

@[simp] theorem State.returning_fsm : (s.returning a).fsm = s.fsm := rfl
@[simp] theorem State.returning_chunkIdx : (s.returning a).chunkIdx = s.chunkIdx := rfl
@[simp] theorem State.returning_seq : (s.returning a).seq = s.seq := rfl
@[simp] theorem State.returning_imageId : (s.returning a).imageId = s.imageId := rfl
@[simp] theorem State.returning_payloadLen : (s.returning a).payloadLen = s.payloadLen := rfl
@[simp] theorem State.returning_totalPackets : (s.returning a).totalPackets = s.totalPackets := rfl
@[simp] theorem State.returning_curLen : (s.returning a).curLen = s.curLen := rfl
@[simp] theorem State.returning_sentBytes : (s.returning a).sentBytes = s.sentBytes := rfl
@[simp] theorem State.returning_retryCnt : (s.returning a).retryCnt = s.retryCnt := rfl
@[simp] theorem State.returning_tickCnt : (s.returning a).tickCnt = s.tickCnt := rfl
@[simp] theorem State.returning_lastOutcome : (s.returning a).lastOutcome = s.lastOutcome := rfl
@[simp] theorem State.returning_failStage : (s.returning a).failStage = s.failStage := rfl
@[simp] theorem State.returning_failIndex : (s.returning a).failIndex = s.failIndex := rfl
@[simp] theorem State.returning_failCause : (s.returning a).failCause = s.failCause := rfl
@[simp] theorem State.returning_txf : (s.returning a).txf = s.txf := rfl
@[simp] theorem State.returning_crc : (s.returning a).crc = s.crc := rfl
@[simp] theorem State.returning_rxFifo : (s.returning a).rxFifo = s.rxFifo := rfl
@[simp] theorem State.returning_outputs : (s.returning a).outputs = s.outputs := rfl
@[simp] theorem State.returning_payload : (s.returning a).payload = s.payload := rfl
@[simp] theorem State.returning_answer : (s.returning a).answer = a := rfl
@[simp] theorem State.returning_pending : (s.returning a).pending = s.pending := rfl

end

/-! `State.setFsm` -/

section
variable (s : State) (f : Fsm)

@[simp] theorem State.setFsm_fsm : (s.setFsm f).fsm = f := rfl
@[simp] theorem State.setFsm_chunkIdx : (s.setFsm f).chunkIdx = s.chunkIdx := rfl
@[simp] theorem State.setFsm_seq : (s.setFsm f).seq = s.seq := rfl
@[simp] theorem State.setFsm_imageId : (s.setFsm f).imageId = s.imageId := rfl
@[simp] theorem State.setFsm_payloadLen : (s.setFsm f).payloadLen = s.payloadLen := rfl
@[simp] theorem State.setFsm_totalPackets : (s.setFsm f).totalPackets = s.totalPackets := rfl
@[simp] theorem State.setFsm_curLen : (s.setFsm f).curLen = s.curLen := rfl
@[simp] theorem State.setFsm_sentBytes : (s.setFsm f).sentBytes = s.sentBytes := rfl
@[simp] theorem State.setFsm_retryCnt : (s.setFsm f).retryCnt = s.retryCnt := rfl
@[simp] theorem State.setFsm_tickCnt : (s.setFsm f).tickCnt = s.tickCnt := rfl
@[simp] theorem State.setFsm_lastOutcome : (s.setFsm f).lastOutcome = s.lastOutcome := rfl
@[simp] theorem State.setFsm_failStage : (s.setFsm f).failStage = s.failStage := rfl
@[simp] theorem State.setFsm_failIndex : (s.setFsm f).failIndex = s.failIndex := rfl
@[simp] theorem State.setFsm_failCause : (s.setFsm f).failCause = s.failCause := rfl
@[simp] theorem State.setFsm_txf : (s.setFsm f).txf = s.txf := rfl
@[simp] theorem State.setFsm_crc : (s.setFsm f).crc = s.crc := rfl
@[simp] theorem State.setFsm_rxFifo : (s.setFsm f).rxFifo = s.rxFifo := rfl
@[simp] theorem State.setFsm_outputs : (s.setFsm f).outputs = s.outputs := rfl
@[simp] theorem State.setFsm_payload : (s.setFsm f).payload = s.payload := rfl
@[simp] theorem State.setFsm_answer : (s.setFsm f).answer = s.answer := rfl
@[simp] theorem State.setFsm_pending : (s.setFsm f).pending = s.pending := rfl

end

/-! `State.setCrc` -/

section
variable (s : State) (v : U16)

@[simp] theorem State.setCrc_fsm : (s.setCrc v).fsm = s.fsm := rfl
@[simp] theorem State.setCrc_chunkIdx : (s.setCrc v).chunkIdx = s.chunkIdx := rfl
@[simp] theorem State.setCrc_seq : (s.setCrc v).seq = s.seq := rfl
@[simp] theorem State.setCrc_imageId : (s.setCrc v).imageId = s.imageId := rfl
@[simp] theorem State.setCrc_payloadLen : (s.setCrc v).payloadLen = s.payloadLen := rfl
@[simp] theorem State.setCrc_totalPackets : (s.setCrc v).totalPackets = s.totalPackets := rfl
@[simp] theorem State.setCrc_curLen : (s.setCrc v).curLen = s.curLen := rfl
@[simp] theorem State.setCrc_sentBytes : (s.setCrc v).sentBytes = s.sentBytes := rfl
@[simp] theorem State.setCrc_retryCnt : (s.setCrc v).retryCnt = s.retryCnt := rfl
@[simp] theorem State.setCrc_tickCnt : (s.setCrc v).tickCnt = s.tickCnt := rfl
@[simp] theorem State.setCrc_lastOutcome : (s.setCrc v).lastOutcome = s.lastOutcome := rfl
@[simp] theorem State.setCrc_failStage : (s.setCrc v).failStage = s.failStage := rfl
@[simp] theorem State.setCrc_failIndex : (s.setCrc v).failIndex = s.failIndex := rfl
@[simp] theorem State.setCrc_failCause : (s.setCrc v).failCause = s.failCause := rfl
@[simp] theorem State.setCrc_txf : (s.setCrc v).txf = s.txf := rfl
@[simp] theorem State.setCrc_crc : (s.setCrc v).crc = v := rfl
@[simp] theorem State.setCrc_rxFifo : (s.setCrc v).rxFifo = s.rxFifo := rfl
@[simp] theorem State.setCrc_outputs : (s.setCrc v).outputs = s.outputs := rfl
@[simp] theorem State.setCrc_payload : (s.setCrc v).payload = s.payload := rfl
@[simp] theorem State.setCrc_answer : (s.setCrc v).answer = s.answer := rfl
@[simp] theorem State.setCrc_pending : (s.setCrc v).pending = s.pending := rfl

end

/-! `State.startWait` -/

section
variable (s : State)

@[simp] theorem State.startWait_fsm : (s.startWait).fsm = s.fsm := rfl
@[simp] theorem State.startWait_chunkIdx : (s.startWait).chunkIdx = s.chunkIdx := rfl
@[simp] theorem State.startWait_seq : (s.startWait).seq = s.seq := rfl
@[simp] theorem State.startWait_imageId : (s.startWait).imageId = s.imageId := rfl
@[simp] theorem State.startWait_payloadLen : (s.startWait).payloadLen = s.payloadLen := rfl
@[simp] theorem State.startWait_totalPackets : (s.startWait).totalPackets = s.totalPackets := rfl
@[simp] theorem State.startWait_curLen : (s.startWait).curLen = s.curLen := rfl
@[simp] theorem State.startWait_sentBytes : (s.startWait).sentBytes = s.sentBytes := rfl
@[simp] theorem State.startWait_retryCnt : (s.startWait).retryCnt = s.retryCnt := rfl
@[simp] theorem State.startWait_tickCnt : (s.startWait).tickCnt = 0 := rfl
@[simp] theorem State.startWait_lastOutcome : (s.startWait).lastOutcome = s.lastOutcome := rfl
@[simp] theorem State.startWait_failStage : (s.startWait).failStage = s.failStage := rfl
@[simp] theorem State.startWait_failIndex : (s.startWait).failIndex = s.failIndex := rfl
@[simp] theorem State.startWait_failCause : (s.startWait).failCause = s.failCause := rfl
@[simp] theorem State.startWait_txf : (s.startWait).txf = s.txf := rfl
@[simp] theorem State.startWait_crc : (s.startWait).crc = s.crc := rfl
@[simp] theorem State.startWait_rxFifo : (s.startWait).rxFifo = s.rxFifo := rfl
@[simp] theorem State.startWait_outputs : (s.startWait).outputs = s.outputs := rfl
@[simp] theorem State.startWait_payload : (s.startWait).payload = s.payload := rfl
@[simp] theorem State.startWait_answer : (s.startWait).answer = s.answer := rfl
@[simp] theorem State.startWait_pending : (s.startWait).pending = s.pending := rfl

end

/-! `State.countTick` -/

section
variable (s : State)

@[simp] theorem State.countTick_fsm : (s.countTick).fsm = s.fsm := rfl
@[simp] theorem State.countTick_chunkIdx : (s.countTick).chunkIdx = s.chunkIdx := rfl
@[simp] theorem State.countTick_seq : (s.countTick).seq = s.seq := rfl
@[simp] theorem State.countTick_imageId : (s.countTick).imageId = s.imageId := rfl
@[simp] theorem State.countTick_payloadLen : (s.countTick).payloadLen = s.payloadLen := rfl
@[simp] theorem State.countTick_totalPackets : (s.countTick).totalPackets = s.totalPackets := rfl
@[simp] theorem State.countTick_curLen : (s.countTick).curLen = s.curLen := rfl
@[simp] theorem State.countTick_sentBytes : (s.countTick).sentBytes = s.sentBytes := rfl
@[simp] theorem State.countTick_retryCnt : (s.countTick).retryCnt = s.retryCnt := rfl
@[simp] theorem State.countTick_tickCnt : (s.countTick).tickCnt = s.tickCnt + 1 := rfl
@[simp] theorem State.countTick_lastOutcome : (s.countTick).lastOutcome = s.lastOutcome := rfl
@[simp] theorem State.countTick_failStage : (s.countTick).failStage = s.failStage := rfl
@[simp] theorem State.countTick_failIndex : (s.countTick).failIndex = s.failIndex := rfl
@[simp] theorem State.countTick_failCause : (s.countTick).failCause = s.failCause := rfl
@[simp] theorem State.countTick_txf : (s.countTick).txf = s.txf := rfl
@[simp] theorem State.countTick_crc : (s.countTick).crc = s.crc := rfl
@[simp] theorem State.countTick_rxFifo : (s.countTick).rxFifo = s.rxFifo := rfl
@[simp] theorem State.countTick_outputs : (s.countTick).outputs = s.outputs := rfl
@[simp] theorem State.countTick_payload : (s.countTick).payload = s.payload := rfl
@[simp] theorem State.countTick_answer : (s.countTick).answer = s.answer := rfl
@[simp] theorem State.countTick_pending : (s.countTick).pending = s.pending := rfl

end

/-! `State.countRetry` -/

section
variable (s : State)

@[simp] theorem State.countRetry_fsm : (s.countRetry).fsm = s.fsm := rfl
@[simp] theorem State.countRetry_chunkIdx : (s.countRetry).chunkIdx = s.chunkIdx := rfl
@[simp] theorem State.countRetry_seq : (s.countRetry).seq = s.seq := rfl
@[simp] theorem State.countRetry_imageId : (s.countRetry).imageId = s.imageId := rfl
@[simp] theorem State.countRetry_payloadLen : (s.countRetry).payloadLen = s.payloadLen := rfl
@[simp] theorem State.countRetry_totalPackets : (s.countRetry).totalPackets = s.totalPackets := rfl
@[simp] theorem State.countRetry_curLen : (s.countRetry).curLen = s.curLen := rfl
@[simp] theorem State.countRetry_sentBytes : (s.countRetry).sentBytes = s.sentBytes := rfl
@[simp] theorem State.countRetry_retryCnt : (s.countRetry).retryCnt = s.retryCnt + 1 := rfl
@[simp] theorem State.countRetry_tickCnt : (s.countRetry).tickCnt = s.tickCnt := rfl
@[simp] theorem State.countRetry_lastOutcome : (s.countRetry).lastOutcome = s.lastOutcome := rfl
@[simp] theorem State.countRetry_failStage : (s.countRetry).failStage = s.failStage := rfl
@[simp] theorem State.countRetry_failIndex : (s.countRetry).failIndex = s.failIndex := rfl
@[simp] theorem State.countRetry_failCause : (s.countRetry).failCause = s.failCause := rfl
@[simp] theorem State.countRetry_txf : (s.countRetry).txf = s.txf := rfl
@[simp] theorem State.countRetry_crc : (s.countRetry).crc = s.crc := rfl
@[simp] theorem State.countRetry_rxFifo : (s.countRetry).rxFifo = s.rxFifo := rfl
@[simp] theorem State.countRetry_outputs : (s.countRetry).outputs = s.outputs := rfl
@[simp] theorem State.countRetry_payload : (s.countRetry).payload = s.payload := rfl
@[simp] theorem State.countRetry_answer : (s.countRetry).answer = s.answer := rfl
@[simp] theorem State.countRetry_pending : (s.countRetry).pending = s.pending := rfl

end

/-! `State.noteOutcome` -/

section
variable (s : State) (o : WaitOutcome)

@[simp] theorem State.noteOutcome_fsm : (s.noteOutcome o).fsm = s.fsm := rfl
@[simp] theorem State.noteOutcome_chunkIdx : (s.noteOutcome o).chunkIdx = s.chunkIdx := rfl
@[simp] theorem State.noteOutcome_seq : (s.noteOutcome o).seq = s.seq := rfl
@[simp] theorem State.noteOutcome_imageId : (s.noteOutcome o).imageId = s.imageId := rfl
@[simp] theorem State.noteOutcome_payloadLen : (s.noteOutcome o).payloadLen = s.payloadLen := rfl
@[simp] theorem State.noteOutcome_totalPackets : (s.noteOutcome o).totalPackets = s.totalPackets := rfl
@[simp] theorem State.noteOutcome_curLen : (s.noteOutcome o).curLen = s.curLen := rfl
@[simp] theorem State.noteOutcome_sentBytes : (s.noteOutcome o).sentBytes = s.sentBytes := rfl
@[simp] theorem State.noteOutcome_retryCnt : (s.noteOutcome o).retryCnt = s.retryCnt := rfl
@[simp] theorem State.noteOutcome_tickCnt : (s.noteOutcome o).tickCnt = s.tickCnt := rfl
@[simp] theorem State.noteOutcome_lastOutcome : (s.noteOutcome o).lastOutcome = some o := rfl
@[simp] theorem State.noteOutcome_failStage : (s.noteOutcome o).failStage = s.failStage := rfl
@[simp] theorem State.noteOutcome_failIndex : (s.noteOutcome o).failIndex = s.failIndex := rfl
@[simp] theorem State.noteOutcome_failCause : (s.noteOutcome o).failCause = s.failCause := rfl
@[simp] theorem State.noteOutcome_txf : (s.noteOutcome o).txf = s.txf := rfl
@[simp] theorem State.noteOutcome_crc : (s.noteOutcome o).crc = s.crc := rfl
@[simp] theorem State.noteOutcome_rxFifo : (s.noteOutcome o).rxFifo = s.rxFifo := rfl
@[simp] theorem State.noteOutcome_outputs : (s.noteOutcome o).outputs = s.outputs := rfl
@[simp] theorem State.noteOutcome_payload : (s.noteOutcome o).payload = s.payload := rfl
@[simp] theorem State.noteOutcome_answer : (s.noteOutcome o).answer = s.answer := rfl
@[simp] theorem State.noteOutcome_pending : (s.noteOutcome o).pending = s.pending := rfl

end

/-! `State.confirmChunk` -/

section
variable (s : State)

@[simp] theorem State.confirmChunk_fsm : (s.confirmChunk).fsm = s.fsm := rfl
@[simp] theorem State.confirmChunk_chunkIdx : (s.confirmChunk).chunkIdx = s.chunkIdx + 1 := rfl
@[simp] theorem State.confirmChunk_seq : (s.confirmChunk).seq = s.seq := rfl
@[simp] theorem State.confirmChunk_imageId : (s.confirmChunk).imageId = s.imageId := rfl
@[simp] theorem State.confirmChunk_payloadLen : (s.confirmChunk).payloadLen = s.payloadLen := rfl
@[simp] theorem State.confirmChunk_totalPackets : (s.confirmChunk).totalPackets = s.totalPackets := rfl
@[simp] theorem State.confirmChunk_curLen : (s.confirmChunk).curLen = s.curLen := rfl
@[simp] theorem State.confirmChunk_sentBytes : (s.confirmChunk).sentBytes = s.sentBytes + s.curLen.setWidth 24 := rfl
@[simp] theorem State.confirmChunk_retryCnt : (s.confirmChunk).retryCnt = s.retryCnt := rfl
@[simp] theorem State.confirmChunk_tickCnt : (s.confirmChunk).tickCnt = s.tickCnt := rfl
@[simp] theorem State.confirmChunk_lastOutcome : (s.confirmChunk).lastOutcome = s.lastOutcome := rfl
@[simp] theorem State.confirmChunk_failStage : (s.confirmChunk).failStage = s.failStage := rfl
@[simp] theorem State.confirmChunk_failIndex : (s.confirmChunk).failIndex = s.failIndex := rfl
@[simp] theorem State.confirmChunk_failCause : (s.confirmChunk).failCause = s.failCause := rfl
@[simp] theorem State.confirmChunk_txf : (s.confirmChunk).txf = s.txf := rfl
@[simp] theorem State.confirmChunk_crc : (s.confirmChunk).crc = s.crc := rfl
@[simp] theorem State.confirmChunk_rxFifo : (s.confirmChunk).rxFifo = s.rxFifo := rfl
@[simp] theorem State.confirmChunk_outputs : (s.confirmChunk).outputs = s.outputs := rfl
@[simp] theorem State.confirmChunk_payload : (s.confirmChunk).payload = s.payload := rfl
@[simp] theorem State.confirmChunk_answer : (s.confirmChunk).answer = s.answer := rfl
@[simp] theorem State.confirmChunk_pending : (s.confirmChunk).pending = s.pending := rfl

end

/-! `State.launch` -/

section
variable (s : State) (st : Stage) (q : U16) (body : List Byte)

@[simp] theorem State.launch_fsm : (s.launch st q body).fsm = st.fsm := rfl
@[simp] theorem State.launch_chunkIdx : (s.launch st q body).chunkIdx = s.chunkIdx := rfl
@[simp] theorem State.launch_seq : (s.launch st q body).seq = q := rfl
@[simp] theorem State.launch_imageId : (s.launch st q body).imageId = s.imageId := rfl
@[simp] theorem State.launch_payloadLen : (s.launch st q body).payloadLen = s.payloadLen := rfl
@[simp] theorem State.launch_totalPackets : (s.launch st q body).totalPackets = s.totalPackets := rfl
@[simp] theorem State.launch_curLen : (s.launch st q body).curLen = lengthByte body := rfl
@[simp] theorem State.launch_sentBytes : (s.launch st q body).sentBytes = s.sentBytes := rfl
@[simp] theorem State.launch_retryCnt : (s.launch st q body).retryCnt = 0 := rfl
@[simp] theorem State.launch_tickCnt : (s.launch st q body).tickCnt = s.tickCnt := rfl
@[simp] theorem State.launch_lastOutcome : (s.launch st q body).lastOutcome = s.lastOutcome := rfl
@[simp] theorem State.launch_failStage : (s.launch st q body).failStage = s.failStage := rfl
@[simp] theorem State.launch_failIndex : (s.launch st q body).failIndex = s.failIndex := rfl
@[simp] theorem State.launch_failCause : (s.launch st q body).failCause = s.failCause := rfl
@[simp] theorem State.launch_txf : (s.launch st q body).txf = frameBuffer (encodeFrame st.command q body) := by rw [State.launch]
@[simp] theorem State.launch_crc : (s.launch st q body).crc = crc16 (coveredBytes st.command q body) := by rw [State.launch]
@[simp] theorem State.launch_rxFifo : (s.launch st q body).rxFifo = s.rxFifo := rfl
@[simp] theorem State.launch_outputs : (s.launch st q body).outputs = s.outputs := rfl
@[simp] theorem State.launch_payload : (s.launch st q body).payload = s.payload := rfl
@[simp] theorem State.launch_answer : (s.launch st q body).answer = s.answer := rfl
@[simp] theorem State.launch_pending : (s.launch st q body).pending = s.pending := rfl

end

/-! `State.beginSession` -/

section
variable (s : State) (id : U16) (n : Nat) (p : List Host.Cell)

@[simp] theorem State.beginSession_fsm : (s.beginSession id n p).fsm = s.fsm := rfl
@[simp] theorem State.beginSession_chunkIdx : (s.beginSession id n p).chunkIdx = 0 := rfl
@[simp] theorem State.beginSession_seq : (s.beginSession id n p).seq = 0 := rfl
@[simp] theorem State.beginSession_imageId : (s.beginSession id n p).imageId = id := rfl
@[simp] theorem State.beginSession_payloadLen : (s.beginSession id n p).payloadLen = BitVec.ofNat 24 n := rfl
@[simp] theorem State.beginSession_totalPackets : (s.beginSession id n p).totalPackets = BitVec.ofNat 16 (packetsFor n) := rfl
@[simp] theorem State.beginSession_curLen : (s.beginSession id n p).curLen = s.curLen := rfl
@[simp] theorem State.beginSession_sentBytes : (s.beginSession id n p).sentBytes = 0 := rfl
@[simp] theorem State.beginSession_retryCnt : (s.beginSession id n p).retryCnt = 0 := rfl
@[simp] theorem State.beginSession_tickCnt : (s.beginSession id n p).tickCnt = s.tickCnt := rfl
@[simp] theorem State.beginSession_lastOutcome : (s.beginSession id n p).lastOutcome = none := rfl
@[simp] theorem State.beginSession_failStage : (s.beginSession id n p).failStage = none := rfl
@[simp] theorem State.beginSession_failIndex : (s.beginSession id n p).failIndex = 0 := rfl
@[simp] theorem State.beginSession_failCause : (s.beginSession id n p).failCause = none := rfl
@[simp] theorem State.beginSession_txf : (s.beginSession id n p).txf = s.txf := rfl
@[simp] theorem State.beginSession_crc : (s.beginSession id n p).crc = s.crc := rfl
@[simp] theorem State.beginSession_rxFifo : (s.beginSession id n p).rxFifo = s.rxFifo := rfl
@[simp] theorem State.beginSession_outputs : (s.beginSession id n p).outputs = s.outputs := rfl
@[simp] theorem State.beginSession_payload : (s.beginSession id n p).payload = Memory.ofCells n p := rfl
@[simp] theorem State.beginSession_answer : (s.beginSession id n p).answer = s.answer := rfl
@[simp] theorem State.beginSession_pending : (s.beginSession id n p).pending = s.pending := rfl

end

/-! `State.enterFailed` -/

section
variable (s : State) (st : Stage) (c : FailCause)

@[simp] theorem State.enterFailed_fsm : (s.enterFailed st c).fsm = .failed := rfl
@[simp] theorem State.enterFailed_chunkIdx : (s.enterFailed st c).chunkIdx = s.chunkIdx := rfl
@[simp] theorem State.enterFailed_seq : (s.enterFailed st c).seq = s.seq := rfl
@[simp] theorem State.enterFailed_imageId : (s.enterFailed st c).imageId = s.imageId := rfl
@[simp] theorem State.enterFailed_payloadLen : (s.enterFailed st c).payloadLen = s.payloadLen := rfl
@[simp] theorem State.enterFailed_totalPackets : (s.enterFailed st c).totalPackets = s.totalPackets := rfl
@[simp] theorem State.enterFailed_curLen : (s.enterFailed st c).curLen = s.curLen := rfl
@[simp] theorem State.enterFailed_sentBytes : (s.enterFailed st c).sentBytes = s.sentBytes := rfl
@[simp] theorem State.enterFailed_retryCnt : (s.enterFailed st c).retryCnt = s.retryCnt := rfl
@[simp] theorem State.enterFailed_tickCnt : (s.enterFailed st c).tickCnt = s.tickCnt := rfl
@[simp] theorem State.enterFailed_lastOutcome : (s.enterFailed st c).lastOutcome = s.lastOutcome := rfl
@[simp] theorem State.enterFailed_failStage : (s.enterFailed st c).failStage = some st := rfl
@[simp] theorem State.enterFailed_failIndex : (s.enterFailed st c).failIndex = if st = .data then s.seq else 0 := rfl
@[simp] theorem State.enterFailed_failCause : (s.enterFailed st c).failCause = some c := rfl
@[simp] theorem State.enterFailed_txf : (s.enterFailed st c).txf = s.txf := rfl
@[simp] theorem State.enterFailed_crc : (s.enterFailed st c).crc = s.crc := rfl
@[simp] theorem State.enterFailed_rxFifo : (s.enterFailed st c).rxFifo = s.rxFifo := rfl
@[simp] theorem State.enterFailed_outputs : (s.enterFailed st c).outputs = s.outputs := rfl
@[simp] theorem State.enterFailed_payload : (s.enterFailed st c).payload = s.payload := rfl
@[simp] theorem State.enterFailed_answer : (s.enterFailed st c).answer = s.answer := rfl
@[simp] theorem State.enterFailed_pending : (s.enterFailed st c).pending = s.pending := rfl

end

/-! `State.hardReset` -/

section
variable (s : State)

@[simp] theorem State.hardReset_fsm : (s.hardReset).fsm = State.reset.fsm := rfl
@[simp] theorem State.hardReset_chunkIdx : (s.hardReset).chunkIdx = State.reset.chunkIdx := rfl
@[simp] theorem State.hardReset_seq : (s.hardReset).seq = State.reset.seq := rfl
@[simp] theorem State.hardReset_imageId : (s.hardReset).imageId = State.reset.imageId := rfl
@[simp] theorem State.hardReset_payloadLen : (s.hardReset).payloadLen = State.reset.payloadLen := rfl
@[simp] theorem State.hardReset_totalPackets : (s.hardReset).totalPackets = State.reset.totalPackets := rfl
@[simp] theorem State.hardReset_curLen : (s.hardReset).curLen = State.reset.curLen := rfl
@[simp] theorem State.hardReset_sentBytes : (s.hardReset).sentBytes = State.reset.sentBytes := rfl
@[simp] theorem State.hardReset_retryCnt : (s.hardReset).retryCnt = State.reset.retryCnt := rfl
@[simp] theorem State.hardReset_tickCnt : (s.hardReset).tickCnt = State.reset.tickCnt := rfl
@[simp] theorem State.hardReset_lastOutcome : (s.hardReset).lastOutcome = State.reset.lastOutcome := rfl
@[simp] theorem State.hardReset_failStage : (s.hardReset).failStage = State.reset.failStage := rfl
@[simp] theorem State.hardReset_failIndex : (s.hardReset).failIndex = State.reset.failIndex := rfl
@[simp] theorem State.hardReset_failCause : (s.hardReset).failCause = State.reset.failCause := rfl
@[simp] theorem State.hardReset_txf : (s.hardReset).txf = State.reset.txf := rfl
@[simp] theorem State.hardReset_crc : (s.hardReset).crc = State.reset.crc := rfl
@[simp] theorem State.hardReset_rxFifo : (s.hardReset).rxFifo = s.rxFifo := rfl
@[simp] theorem State.hardReset_outputs : (s.hardReset).outputs = s.outputs := rfl
@[simp] theorem State.hardReset_payload : (s.hardReset).payload = s.payload := rfl
@[simp] theorem State.hardReset_answer : (s.hardReset).answer = State.reset.answer := rfl
@[simp] theorem State.hardReset_pending : (s.hardReset).pending = s.pending := rfl

end

/-! `State.present` -/

section
variable (s : State) (e : Event)

@[simp] theorem State.present_fsm : (s.present e).fsm = s.fsm := rfl
@[simp] theorem State.present_chunkIdx : (s.present e).chunkIdx = s.chunkIdx := rfl
@[simp] theorem State.present_seq : (s.present e).seq = s.seq := rfl
@[simp] theorem State.present_imageId : (s.present e).imageId = s.imageId := rfl
@[simp] theorem State.present_payloadLen : (s.present e).payloadLen = s.payloadLen := rfl
@[simp] theorem State.present_totalPackets : (s.present e).totalPackets = s.totalPackets := rfl
@[simp] theorem State.present_curLen : (s.present e).curLen = s.curLen := rfl
@[simp] theorem State.present_sentBytes : (s.present e).sentBytes = s.sentBytes := rfl
@[simp] theorem State.present_retryCnt : (s.present e).retryCnt = s.retryCnt := rfl
@[simp] theorem State.present_tickCnt : (s.present e).tickCnt = s.tickCnt := rfl
@[simp] theorem State.present_lastOutcome : (s.present e).lastOutcome = s.lastOutcome := rfl
@[simp] theorem State.present_failStage : (s.present e).failStage = s.failStage := rfl
@[simp] theorem State.present_failIndex : (s.present e).failIndex = s.failIndex := rfl
@[simp] theorem State.present_failCause : (s.present e).failCause = s.failCause := rfl
@[simp] theorem State.present_txf : (s.present e).txf = s.txf := rfl
@[simp] theorem State.present_crc : (s.present e).crc = s.crc := rfl
@[simp] theorem State.present_rxFifo : (s.present e).rxFifo = s.rxFifo := rfl
@[simp] theorem State.present_outputs : (s.present e).outputs = s.outputs := rfl
@[simp] theorem State.present_payload : (s.present e).payload = s.payload := rfl
@[simp] theorem State.present_answer : (s.present e).answer = s.answer := rfl
@[simp] theorem State.present_pending : (s.present e).pending = e :: s.pending := rfl

end

/-! `State.taken` -/

section
variable (s : State) (rest : List Event)

@[simp] theorem State.taken_fsm : (s.taken rest).fsm = s.fsm := rfl
@[simp] theorem State.taken_chunkIdx : (s.taken rest).chunkIdx = s.chunkIdx := rfl
@[simp] theorem State.taken_seq : (s.taken rest).seq = s.seq := rfl
@[simp] theorem State.taken_imageId : (s.taken rest).imageId = s.imageId := rfl
@[simp] theorem State.taken_payloadLen : (s.taken rest).payloadLen = s.payloadLen := rfl
@[simp] theorem State.taken_totalPackets : (s.taken rest).totalPackets = s.totalPackets := rfl
@[simp] theorem State.taken_curLen : (s.taken rest).curLen = s.curLen := rfl
@[simp] theorem State.taken_sentBytes : (s.taken rest).sentBytes = s.sentBytes := rfl
@[simp] theorem State.taken_retryCnt : (s.taken rest).retryCnt = s.retryCnt := rfl
@[simp] theorem State.taken_tickCnt : (s.taken rest).tickCnt = s.tickCnt := rfl
@[simp] theorem State.taken_lastOutcome : (s.taken rest).lastOutcome = s.lastOutcome := rfl
@[simp] theorem State.taken_failStage : (s.taken rest).failStage = s.failStage := rfl
@[simp] theorem State.taken_failIndex : (s.taken rest).failIndex = s.failIndex := rfl
@[simp] theorem State.taken_failCause : (s.taken rest).failCause = s.failCause := rfl
@[simp] theorem State.taken_txf : (s.taken rest).txf = s.txf := rfl
@[simp] theorem State.taken_crc : (s.taken rest).crc = s.crc := rfl
@[simp] theorem State.taken_rxFifo : (s.taken rest).rxFifo = s.rxFifo := rfl
@[simp] theorem State.taken_outputs : (s.taken rest).outputs = s.outputs := rfl
@[simp] theorem State.taken_payload : (s.taken rest).payload = s.payload := rfl
@[simp] theorem State.taken_answer : (s.taken rest).answer = s.answer := rfl
@[simp] theorem State.taken_pending : (s.taken rest).pending = rest := rfl

end

/-! `State.reset` -/

@[simp] theorem State.reset_fsm : State.reset.fsm = .idle := rfl
@[simp] theorem State.reset_chunkIdx : State.reset.chunkIdx = 0 := rfl
@[simp] theorem State.reset_seq : State.reset.seq = 0 := rfl
@[simp] theorem State.reset_imageId : State.reset.imageId = 0 := rfl
@[simp] theorem State.reset_payloadLen : State.reset.payloadLen = 0 := rfl
@[simp] theorem State.reset_totalPackets : State.reset.totalPackets = 0 := rfl
@[simp] theorem State.reset_curLen : State.reset.curLen = 0 := rfl
@[simp] theorem State.reset_sentBytes : State.reset.sentBytes = 0 := rfl
@[simp] theorem State.reset_retryCnt : State.reset.retryCnt = 0 := rfl
@[simp] theorem State.reset_tickCnt : State.reset.tickCnt = 0 := rfl
@[simp] theorem State.reset_lastOutcome : State.reset.lastOutcome = none := rfl
@[simp] theorem State.reset_failStage : State.reset.failStage = none := rfl
@[simp] theorem State.reset_failIndex : State.reset.failIndex = 0 := rfl
@[simp] theorem State.reset_failCause : State.reset.failCause = none := rfl
@[simp] theorem State.reset_txf : State.reset.txf = Vector.replicate 250 0 := rfl
@[simp] theorem State.reset_crc : State.reset.crc = 0 := rfl
@[simp] theorem State.reset_rxFifo : State.reset.rxFifo = [] := rfl
@[simp] theorem State.reset_outputs : State.reset.outputs = [] := rfl
@[simp] theorem State.reset_payload : State.reset.payload = [] := rfl
@[simp] theorem State.reset_answer : State.reset.answer = .nothing := rfl
@[simp] theorem State.reset_pending : State.reset.pending = [] := rfl

end Sys2Proof.Machine
end

