-- ==== Sys2Proof/Laws/Memory.lean ====
section
/-! SUPPORT. The PAYLOAD space: a read after a write, and the canonical form kept by every operation on it. -/

namespace Sys2Proof.Machine

/-- Every address of a canonical memory's tail lies above its head's. -/
theorem Memory.wf_cons {c : Host.Cell} {m : Memory} :
    Memory.wf (c :: m) = true ↔ c.2 ≠ 0#8 ∧ (∀ d ∈ m.head?, c.1 < d.1) ∧ Memory.wf m = true := by
  cases m with
  | nil => simp [Memory.wf]
  | cons d rest => simp [Memory.wf, and_assoc]

/-- A cell below the first of a canonical memory is not listed. -/
theorem Memory.read_below {m : Memory} (h : Memory.wf m = true) {a : Nat} (ha : ∀ d ∈ m.head?, a < d.1) :
    Memory.read m a = 0#8 := by
  induction m with
  | nil => rfl
  | cons c rest ih =>
    obtain ⟨-, hlt, hwf⟩ := Memory.wf_cons.mp h
    have hc : a < c.1 := ha c rfl
    have : c.1 ≠ a := by omega
    rw [Memory.read, if_neg this]
    exact ih hwf fun d hd => lt_trans hc (hlt d hd)

/-- A read after a write of the same address gives the value written; a write leaves every other address alone. -/
theorem Memory.read_write {m : Memory} (h : Memory.wf m = true) (a b : Nat) (v : Byte) :
    Memory.read (Memory.write m a v) b = if b = a then v else Memory.read m b := by
  induction m with
  | nil => by_cases hv : v = 0#8 <;> by_cases hb : b = a <;> simp [Memory.write, Memory.read, hv, hb, Ne.symm]
  | cons c rest ih =>
    obtain ⟨-, hlt, hwf⟩ := Memory.wf_cons.mp h
    rw [Memory.write]
    split
    · rename_i hac
      have hz : Memory.read (c :: rest) a = 0#8 := Memory.read_below h (by simpa using hac)
      by_cases hv : v = 0#8
      · by_cases hb : b = a <;> simp [hv, hb, hz]
      · by_cases hb : b = a
        · simp [Memory.read, hv, hb]
        · rw [if_neg hv, if_neg hb, Memory.read, if_neg (Ne.symm hb)]
    · split
      · rename_i hac
        have hz : Memory.read rest a = 0#8 := Memory.read_below hwf fun d hd => hac ▸ hlt d hd
        by_cases hb : b = a
        · by_cases hv : v = 0#8
          · simp [hv, hb, hz]
          · simp [Memory.read, hv, hb]
        · have : c.1 ≠ b := fun e => hb (e ▸ hac.symm)
          by_cases hv : v = 0#8 <;> simp [Memory.read, hv, hb, this, Ne.symm hb]
      · rename_i h1 h2
        rw [Memory.read, Memory.read, ih hwf]
        by_cases hb : b = a
        · simp [hb, Ne.symm h2]
        · simp [hb]

/-- The first address after a write is the old first or the one written. -/
theorem Memory.head_write (m : Memory) (a : Nat) (v : Byte) (lo : Nat) (hm : ∀ d ∈ m.head?, lo < d.1)
    (hw : Memory.wf m = true) (ha : lo < a) : ∀ d ∈ (Memory.write m a v).head?, lo < d.1 := by
  cases m with
  | nil => by_cases hv : v = 0#8 <;> simp [Memory.write, hv, ha]
  | cons c rest =>
    have hc : lo < c.1 := hm c rfl
    obtain ⟨-, hlt, -⟩ := Memory.wf_cons.mp hw
    rw [Memory.write]
    split
    · by_cases hv : v = 0#8 <;> simp [hv, ha, hc]
    · split
      · by_cases hv : v = 0#8
        · simp only [hv, if_true]; exact fun d hd => lt_trans hc (hlt d hd)
        · simp [hv, ha]
      · simpa using hc

/-- A write keeps the canonical form. -/
theorem Memory.wf_write {m : Memory} (h : Memory.wf m = true) (a : Nat) (v : Byte) :
    Memory.wf (Memory.write m a v) = true := by
  induction m with
  | nil => by_cases hv : v = 0#8 <;> simp [Memory.write, Memory.wf, hv]
  | cons c rest ih =>
    obtain ⟨hc, hlt, hwf⟩ := Memory.wf_cons.mp h
    rw [Memory.write]
    split
    · rename_i hac
      by_cases hv : v = 0#8
      · simpa [hv] using h
      · simp only [hv, if_false]; exact Memory.wf_cons.mpr ⟨hv, by simpa using hac, h⟩
    · split
      · rename_i hac
        by_cases hv : v = 0#8
        · simpa [hv] using hwf
        · simp only [hv, if_false]; exact Memory.wf_cons.mpr ⟨hv, fun d hd => hac ▸ hlt d hd, hwf⟩
      · rename_i h1 h2
        exact Memory.wf_cons.mpr ⟨hc, Memory.head_write rest a v c.1 hlt hwf (by omega), ih hwf⟩

/-- The PAYLOAD space of a request is in canonical form, however its argument was written. -/
theorem Memory.wf_ofCells (n : Nat) (cells : List Host.Cell) : Memory.wf (Memory.ofCells n cells) = true := by
  induction cells with
  | nil => rfl
  | cons c rest ih =>
    rw [Memory.ofCells, List.foldr_cons]
    split
    · exact Memory.wf_write ih c.1 c.2
    · exact ih

/-- The PAYLOAD space of a request holds the argument's bytes below the payload length: its function, as R61 has it. -/
theorem Memory.read_ofCells (n : Nat) (cells : List Host.Cell) (a : Nat) (ha : a < n) :
    Memory.read (Memory.ofCells n cells) a = Memory.read cells a := by
  induction cells with
  | nil => rfl
  | cons c rest ih =>
    have hf : Memory.ofCells n (c :: rest)
        = if c.1 < n then Memory.write (Memory.ofCells n rest) c.1 c.2 else Memory.ofCells n rest := rfl
    rw [hf, Memory.read]
    split
    · rw [Memory.read_write (Memory.wf_ofCells n rest), ih]
      simp [eq_comm]
    · rename_i hc
      rw [if_neg (by omega : c.1 ≠ a), ih]

/-- Reset's PAYLOAD is in canonical form. -/
theorem Memory.wf_reset : Memory.wf State.reset.payload = true := rfl

end Sys2Proof.Machine
end

