-- ==== Sys2Proof/Laws/Ops.lean ====
section
/-! SUPPORT. One lemma for each shared operation that says once everything it can do. The sequencer's steps are related to
the poll they end with, and `poll_eq` closes the chain: a poll that reads reacts once, and whatever EMIT it causes polls an
empty FIFO (spec/42_transfer_fsm.md R151). -/

namespace Sys2Proof.Machine

/-! `andThen` -/

theorem andThen_next {r : Result} {k : State → Result} {t : State} :
    andThen r k = .next t ↔ ∃ u, r = .next u ∧ k u = .next t := by
  cases r <;> simp [andThen]

@[simp] theorem andThen_next_left (s : State) (k : State → Result) : andThen (.next s) k = k s := rfl

/-! Stages and states -/

@[simp] theorem Stage.stage?_fsm (st : Stage) : st.fsm.stage? = some st := by cases st <;> rfl
@[simp] theorem Stage.busy_fsm (st : Stage) : st.fsm.busy = true := by cases st <;> rfl

@[simp] theorem Stage.limit_start : Stage.start.limit = 200 := rfl
@[simp] theorem Stage.limit_data : Stage.data.limit = 100 := rfl
@[simp] theorem Stage.limit_final : Stage.final.limit = 200 := rfl
@[simp] theorem Stage.budget_start : Stage.start.budget = 0 := rfl
@[simp] theorem Stage.budget_data : Stage.data.budget = 3 := rfl
@[simp] theorem Stage.budget_final : Stage.final.budget = 0 := rfl

/-- The awaiting states are those of the three stages (R22, R141). -/
theorem Fsm.stage?_eq_some {f : Fsm} {st : Stage} : f.stage? = some st ↔ f = st.fsm := by
  cases f <;> cases st <;> simp [Fsm.stage?, Stage.fsm]

theorem Fsm.busy_iff {f : Fsm} : f.busy = true ↔ f = .awaitStartAck ∨ f = .awaitDataAck ∨ f = .awaitEndAck := by
  cases f <;> simp [Fsm.busy, Fsm.stage?]

/-! The chunks of PAYLOAD -/

/-- The length of a chunk (R173). -/
theorem State.chunkBytes_length (s : State) (k : Nat) :
    (s.chunkBytes k).length = min 240 (s.payloadLen.toNat - 240 * k) := by
  simp [State.chunkBytes, State.chunkLen, Config.chunk]

/-- A chunk is the bytes of PAYLOAD from its first address (R173). -/
theorem State.chunkBytes_read (s : State) (k i : Nat) (hi : i < (s.chunkBytes k).length) :
    s.payloadByte? (240 * k + i) = some (byteAt (s.chunkBytes k) i) := by
  have h := State.chunkBytes_length s k
  have hr : (List.range (s.chunkLen k))[i]? = some i :=
    List.getElem?_range (by simpa [State.chunkBytes] using hi)
  simp only [State.payloadByte?, byteAt, State.chunkBytes, List.getD_eq_getElem?_getD, List.getElem?_map, hr, Config.chunk]
  rw [if_pos (by omega)]
  rfl

/-- A chunk depends on PAYLOAD and its length alone (R64). -/
theorem State.chunkBytes_congr {s u : State} (hp : u.payload = s.payload) (hl : u.payloadLen = s.payloadLen) (k : Nat) :
    u.chunkBytes k = s.chunkBytes k := by
  simp only [State.chunkBytes, State.chunkLen, hp, hl]

/-! The steps that end with a poll, in terms of it -/

section
variable {p q : State → Result}

theorem sendDataWith_eq (k : U16) (s : State) (hk : k.toNat < s.totalPackets.toNat)
    (ho : Config.chunk * k.toNat < s.payloadLen.toNat) :
    sendDataWith p k s = sendFrameWith p .data (s.seq + 1) (s.chunkBytes k.toNat) s := by
  rw [sendDataWith, if_pos hk, if_pos ho]

/-- SEND_DATA gives a next state only for a chunk of the session whose first byte PAYLOAD has. -/
theorem sendDataWith_next {k : U16} {s t : State} (h : sendDataWith p k s = .next t) :
    k.toNat < s.totalPackets.toNat ∧ Config.chunk * k.toNat < s.payloadLen.toNat ∧
      sendFrameWith p .data (s.seq + 1) (s.chunkBytes k.toNat) s = .next t := by
  rw [sendDataWith] at h
  split at h
  · split at h
    · exact ⟨‹_›, ‹_›, h⟩
    · cases h
  · cases h

/-- What ON_ACK can do (R147, R172, R174, R176). -/
theorem onAckWith_next {s t : State} (h : onAckWith p s = .next t) :
    (s.fsm = .awaitStartAck ∧ s.totalPackets = 0 ∧ sendEndWith p s = .next t) ∨
    (s.fsm = .awaitStartAck ∧ s.totalPackets ≠ 0 ∧ sendDataWith p 0 s = .next t) ∨
    (s.fsm = .awaitDataAck ∧ s.chunkIdx + 1 = s.totalPackets ∧ sendEndWith p s.confirmChunk = .next t) ∨
    (s.fsm = .awaitDataAck ∧ s.chunkIdx + 1 ≠ s.totalPackets ∧
      sendDataWith p (s.chunkIdx + 1) s.confirmChunk = .next t) ∨
    (s.fsm = .awaitEndAck ∧ t = s.setFsm .done) := by
  rw [onAckWith] at h
  split at h <;> rename_i hf
  · split at h
    · exact .inl ⟨hf, ‹_›, h⟩
    · exact .inr (.inl ⟨hf, ‹_›, h⟩)
  · split at h
    · exact .inr (.inr (.inl ⟨hf, by assumption, h⟩))
    · exact .inr (.inr (.inr (.inl ⟨hf, by assumption, h⟩)))
  · cases h; exact .inr (.inr (.inr (.inr ⟨hf, rfl⟩)))
  all_goals cases h

/-- What ATTEMPT_FAILED can do (R148, R149). -/
theorem attemptFailedWith_next {cause : FailCause} {s t : State} (h : attemptFailedWith p cause s = .next t) :
    ∃ st : Stage, s.fsm = st.fsm ∧
      ((s.retryCnt.toNat < st.budget ∧ emitWith p s.countRetry = .next t) ∨
        (¬ s.retryCnt.toNat < st.budget ∧ t = s.enterFailed st cause)) := by
  rw [attemptFailedWith] at h
  split at h
  · cases h
  · rename_i st hst
    refine ⟨st, Fsm.stage?_eq_some.mp hst, ?_⟩
    split at h
    · exact .inl ⟨‹_›, h⟩
    · cases h; exact .inr ⟨‹_›, rfl⟩

/-- What the reaction to a reply can do (R143). -/
theorem reactWith_next {r : PrefixResult} {s t : State} (h : reactWith p r s = .next t) :
    (r = .ack ∧ onAckWith p (s.noteOutcome .ack) = .next t) ∨
    (∃ got, r = .nack got ∧ attemptFailedWith p .nack ((s.logNack s.seq got).noteOutcome .nack) = .next t) ∨
    (r = .other ∧ t = s) := by
  cases r with
  | ack => exact .inl ⟨rfl, h⟩
  | nack got => exact .inr (.inl ⟨got, rfl, h⟩)
  | other => cases h; exact .inr (.inr ⟨rfl, rfl⟩)

/-! ON_ACK, ATTEMPT_FAILED case by case -/

theorem onAckWith_start_empty {s : State} (h : s.fsm = .awaitStartAck) (h0 : s.totalPackets = 0) :
    onAckWith p s = sendEndWith p s := by rw [onAckWith, h]; exact if_pos h0

theorem onAckWith_start {s : State} (h : s.fsm = .awaitStartAck) (h0 : s.totalPackets ≠ 0) :
    onAckWith p s = sendDataWith p 0 s := by rw [onAckWith, h]; exact if_neg h0

theorem onAckWith_last {s : State} (h : s.fsm = .awaitDataAck) (hl : s.chunkIdx + 1 = s.totalPackets) :
    onAckWith p s = sendEndWith p s.confirmChunk := by rw [onAckWith, h]; exact if_pos hl

theorem onAckWith_more {s : State} (h : s.fsm = .awaitDataAck) (hm : s.chunkIdx + 1 ≠ s.totalPackets) :
    onAckWith p s = sendDataWith p (s.chunkIdx + 1) s.confirmChunk := by rw [onAckWith, h]; exact if_neg hm

theorem onAckWith_end {s : State} (h : s.fsm = .awaitEndAck) : onAckWith p s = .next (s.setFsm .done) := by
  rw [onAckWith, h]

theorem attemptFailedWith_retry {s : State} {st : Stage} {cause : FailCause} (h : s.fsm = st.fsm)
    (hr : s.retryCnt.toNat < st.budget) : attemptFailedWith p cause s = emitWith p s.countRetry := by
  rw [attemptFailedWith, Fsm.stage?_eq_some.mpr h]; exact if_pos hr

theorem attemptFailedWith_fail {s : State} {st : Stage} {cause : FailCause} (h : s.fsm = st.fsm)
    (hr : st.budget ≤ s.retryCnt.toNat) : attemptFailedWith p cause s = .next (s.enterFailed st cause) := by
  rw [attemptFailedWith, Fsm.stage?_eq_some.mpr h]; exact if_neg (by omega)

/-! The poll at the end matters only on an empty FIFO, once the FIFO is empty -/

theorem emitWith_congr (hpq : ∀ u : State, u.rxFifo = [] → p u = q u) {s : State} (hs : s.rxFifo = []) :
    emitWith p s = emitWith q s := hpq _ (by simpa using hs)

theorem sendFrameWith_congr (hpq : ∀ u : State, u.rxFifo = [] → p u = q u) {s : State} (hs : s.rxFifo = [])
    (st : Stage) (n : U16) (body : List Byte) : sendFrameWith p st n body s = sendFrameWith q st n body s :=
  emitWith_congr hpq (by simpa using hs)

theorem sendDataWith_congr (hpq : ∀ u : State, u.rxFifo = [] → p u = q u) {s : State} (hs : s.rxFifo = []) (k : U16) :
    sendDataWith p k s = sendDataWith q k s := by
  rw [sendDataWith, sendDataWith, sendFrameWith_congr hpq hs]

theorem onAckWith_congr (hpq : ∀ u : State, u.rxFifo = [] → p u = q u) {s : State} (hs : s.rxFifo = []) :
    onAckWith p s = onAckWith q s := by
  have hc : s.confirmChunk.rxFifo = [] := by simpa using hs
  simp only [onAckWith, sendEndWith, sendFrameWith_congr hpq hs, sendFrameWith_congr hpq hc, sendDataWith_congr hpq hs,
    sendDataWith_congr hpq hc]

theorem attemptFailedWith_congr (hpq : ∀ u : State, u.rxFifo = [] → p u = q u) {s : State} (hs : s.rxFifo = [])
    (cause : FailCause) : attemptFailedWith p cause s = attemptFailedWith q cause s := by
  have hc : s.countRetry.rxFifo = [] := by simpa using hs
  simp only [attemptFailedWith, emitWith_congr hpq hc]

theorem reactWith_congr (hpq : ∀ u : State, u.rxFifo = [] → p u = q u) {s : State} (hs : s.rxFifo = [])
    (r : PrefixResult) : reactWith p r s = reactWith q r s := by
  cases r with
  | ack => exact onAckWith_congr hpq (by simpa using hs)
  | nack got => exact attemptFailedWith_congr hpq (by simpa using hs) _
  | other => rfl

end

/-! POLL -/

@[simp] theorem State.rxAvail_eq (s : State) : s.rxAvail = s.rxFifo.length := rfl
@[simp] theorem State.rxFront_all (s : State) : s.rxFront s.rxFifo.length = s.rxFifo := by simp [State.rxFront]

/-- A poll below the threshold reads nothing (R143, R56). -/
theorem pollFuel_quiet (k : Nat) {s : State} (h : s.rxFifo.length < 11) : pollFuel k s = .next s := by
  cases k with
  | zero => rfl
  | succ k => simp [pollFuel, Config.rxThreshold, h]

/-- POLL in closed form: below the threshold nothing; else every byte is read and one reaction follows, whose own poll finds
an empty FIFO (R143, R151). -/
theorem poll_eq (s : State) :
    poll s = if s.rxFifo.length < 11 then .next s
      else reactWith .next (prefixOf s.rxFifo s.seq) (s.rxDrop s.rxFifo.length) := by
  split
  · exact pollFuel_quiet 2 ‹_›
  · rename_i h
    have he : (s.rxDrop s.rxFifo.length).rxFifo = [] := by simp
    rw [poll, pollFuel]
    simp only [State.rxAvail_eq, State.rxFront_all, Config.rxThreshold, if_neg h]
    exact reactWith_congr (fun u hu => pollFuel_quiet 1 (by simp [hu])) he _

/-- A poll that reads reacts to what its first bytes are (R143). -/
theorem poll_read {s : State} {r : PrefixResult} (h : 11 ≤ s.rxFifo.length) (hp : prefixOf s.rxFifo s.seq = r) :
    poll s = reactWith .next r (s.rxDrop s.rxFifo.length) := by
  rw [poll_eq, if_neg (by omega), hp]

theorem poll_quiet {s : State} (h : s.rxFifo.length < 11) : poll s = .next s := pollFuel_quiet 2 h

/-- EMIT in closed form: one frame, the clock at zero, and the poll (R144). -/
theorem emit_eq (s : State) : emit s = poll s.txWrite.startWait := rfl

/-- EMIT on a FIFO below the threshold. -/
theorem emit_quiet {s : State} (h : s.rxFifo.length < 11) : emit s = .next s.txWrite.startWait :=
  poll_quiet (by simpa using h)

/-- A frame sent on a FIFO below the threshold. -/
theorem sendFrame_quiet {s : State} (h : s.rxFifo.length < 11) (st : Stage) (n : U16) (body : List Byte) :
    sendFrame st n body s = .next (s.launch st n body).txWrite.startWait := poll_quiet (by simpa using h)

/-- The frame of a launched stage, in TXF (R123). -/
theorem State.launch_frame (s : State) (st : Stage) (n : U16) {body : List Byte} (h : body.length ≤ 240) :
    (s.launch st n body).txf.toList = encodeFrame st.command n body := by
  rw [State.launch_txf, frameBuffer_encodeFrame _ _ h]

/-- Everything a launch and its emission write (R123, R144): the registers of the frame, TXF, the TX stream, the clock. -/
theorem State.launch_sent (s : State) (st : Stage) (n : U16) {body : List Byte} (h : body.length ≤ 240) :
    (s.launch st n body).txWrite.startWait =
      { s with
        fsm := st.fsm, seq := n, curLen := lengthByte body, retryCnt := 0, tickCnt := 0,
        txf := frameBuffer (encodeFrame st.command n body), crc := crc16 (coveredBytes st.command n body),
        outputs := s.outputs ++ [.txFrame (encodeFrame st.command n body)] } := by
  apply State.ext
  all_goals simp [frameBuffer_encodeFrame st.command n h]

/-- What a poll can do (R143). -/
theorem poll_next {s t : State} (h : poll s = .next t) :
    (s.rxFifo.length < 11 ∧ t = s) ∨
      (11 ≤ s.rxFifo.length ∧
        reactWith .next (prefixOf s.rxFifo s.seq) (s.rxDrop s.rxFifo.length) = .next t) := by
  rw [poll_eq] at h
  split at h
  · cases h; exact .inl ⟨‹_›, rfl⟩
  · exact .inr ⟨by omega, h⟩

/-! TICK -/

/-- What a tick can do (R146). -/
theorem tick_next {s t : State} (h : tick s = .next t) :
    (s.fsm.busy = false ∧ t = s) ∨
      ∃ st : Stage, s.fsm = st.fsm ∧
        ((s.tickCnt.toNat + 1 = st.limit ∧ attemptFailed .timeout (s.noteOutcome .timeout) = .next t) ∨
          (s.tickCnt.toNat + 1 ≠ st.limit ∧ poll s.countTick = .next t)) := by
  rw [tick] at h
  split at h
  · rename_i hn
    cases h; exact .inl ⟨by simp [Fsm.busy, hn], rfl⟩
  · rename_i st hst
    refine .inr ⟨st, Fsm.stage?_eq_some.mp hst, ?_⟩
    split at h
    · exact .inl ⟨‹_›, h⟩
    · exact .inr ⟨‹_›, h⟩

/-- A tick below the limit counts and polls (R146). -/
theorem tick_below {s : State} {st : Stage} (h : s.fsm = st.fsm) (hl : s.tickCnt.toNat + 1 ≠ st.limit) :
    tick s = poll s.countTick := by
  rw [tick, Fsm.stage?_eq_some.mpr h]; exact if_neg hl

/-- A tick at the limit is a timeout, with no poll (R146). -/
theorem tick_at {s : State} {st : Stage} (h : s.fsm = st.fsm) (hl : s.tickCnt.toNat + 1 = st.limit) :
    tick s = attemptFailed .timeout (s.noteOutcome .timeout) := by
  rw [tick, Fsm.stage?_eq_some.mpr h]; exact if_pos hl

/-- A tick outside an awaiting state changes nothing (R146). -/
theorem tick_ignored {s : State} (h : s.fsm.busy = false) : tick s = .next s := by
  cases hf : s.fsm <;> simp_all [tick, Fsm.busy, Fsm.stage?]

/-- ATTEMPT_FAILED on a FIFO below the threshold: a resend and no more, or the failure entry (R148). -/
theorem attemptFailed_quiet {s : State} {st : Stage} (cause : FailCause) (h : s.fsm = st.fsm)
    (hr : s.rxFifo.length < 11) :
    attemptFailed cause s = .next
      (if s.retryCnt.toNat < st.budget then s.countRetry.txWrite.startWait else s.enterFailed st cause) := by
  split
  · rw [attemptFailed, attemptFailedWith_retry h (by assumption)]
    exact poll_quiet (by simpa using hr)
  · exact attemptFailedWith_fail h (by omega)

/-! Preconditions and operand ranges -/

/-- What a step that needs an awaiting state can do (R141, assumption log 10). -/
theorem whileAwaiting_next {op : State → Result} {s t : State} :
    whileAwaiting op s = .next t ↔ s.fsm.busy = true ∧ op s = .next t := by
  rw [whileAwaiting]
  split <;> simp_all

/-- A length the sequencer sends is a body's length (R77 to R79). -/
theorem lengthSent_le {command len : Byte} (h : lengthSent command len = true) : len.toNat ≤ 240 := by
  simp only [lengthSent, Config.chunk] at h
  split_ifs at h <;> simp at h <;> omega

/-- What a frame to the peer can do (R84, assumption log 22). -/
theorem transmit_next {st : Stage} {n : U16} {len : Byte} {pl : List Byte} {s t : State} :
    transmit st n len pl s = .next t ↔
      lengthSent st.command len = true ∧ sendFrame st n (pl.take len.toNat) s = .next t := by
  rw [transmit]
  split <;> simp_all

/-! WAIT_FOR_ACK -/

/-- WAIT_FOR_ACK on a FIFO below the threshold is the rest of the wait, its clock at zero (R145). -/
theorem waitForAck_quiet {s : State} (h : s.rxFifo.length < 11) : waitForAck s = waitOver s.pending s.startWait := by
  have hn : pollOutcome? s.startWait = none := by simp [pollOutcome?, Config.rxThreshold, h]
  rw [waitForAck, hn]
  simp only
  rw [poll_quiet (by simpa using h)]
  rfl

/-- A tick below the limit that finds too few bytes only counts (R145, R146). -/
theorem waitOver_tick_quiet {s : State} {st : Stage} (es : List Event) (h : s.fsm = st.fsm)
    (hr : s.rxFifo.length < 11) (hl : s.tickCnt.toNat + 1 ≠ st.limit) :
    waitOver (.tick :: es) s = waitOver es s.countTick := by
  have hn : tickOutcome? s = none := by
    simp [tickOutcome?, h, hl, pollOutcome?, Config.rxThreshold, hr]
  rw [waitOver, hn]
  simp only
  rw [tick_below h hl, poll_quiet (by simpa using hr)]
  rfl

/-- A tick at the limit ends the wait with Timeout (R145, R146). -/
theorem waitOver_tick_timeout {s : State} {st : Stage} (es : List Event) (h : s.fsm = st.fsm)
    (hl : s.tickCnt.toNat + 1 = st.limit) :
    waitOver (.tick :: es) s
      = andThen (tick { s with pending := es }) fun t => .next (t.returning (.waited (some .timeout))) := by
  have hn : tickOutcome? s = some .timeout := by simp [tickOutcome?, h, hl]
  rw [waitOver, hn]

/-! The step -/

/-- A received frame of the table is an arrival of bytes and a tick (assumption log 2). -/
theorem exec_received {w : List Byte} {i : Instr} (h : decodeFrameBytes .toBlock w = .ok i) (s : State) :
    ∃ b, exec i s = frameArrives b s := by
  simp only [decodeFrameBytes, frameInstr] at h
  split_ifs at h <;> cases h <;> exact ⟨_, rfl⟩

/-- What a step can do (R9, R57, R84, R230). -/
theorem step_next {s t : State} (h : step s = .next t) :
    (s.pending = [] ∧ t = s) ∨
      ∃ e rest, s.pending = e :: rest ∧
        ((∃ i, fetchEvent e = .instr i ∧ exec i (s.taken rest) = .next t) ∨
          (∃ b, e = .frameAtTick b ∧ frameArrives b (s.taken rest) = .next t) ∨
          (∃ b, e = .rxArrive b ∧ t = (s.taken rest).rxArrive b) ∨
          (e = .reset ∧ t = (s.taken rest).hardReset)) := by
  rw [step] at h
  split at h
  · cases h; exact .inl ⟨‹_›, rfl⟩
  · rename_i e rest hp
    refine .inr ⟨e, rest, hp, ?_⟩
    cases e with
    | hostReq r => exact .inl ⟨_, rfl, h⟩
    | tick => exact .inl ⟨_, rfl, h⟩
    | rxArrive b => cases h; exact .inr (.inr (.inl ⟨b, rfl, rfl⟩))
    | frameAtTick b =>
      cases hd : decode (.frame .toBlock b) with
      | ok i => simp only [fetchEvent, hd] at h; exact .inl ⟨i, by simp only [fetchEvent, hd], h⟩
      | error why => simp only [fetchEvent, hd] at h; exact .inr (.inl ⟨b, rfl, h⟩)
    | reset => cases h; exact .inr (.inr (.inr ⟨rfl, rfl⟩))

/-- Which operations an event presents (R9, R83): a host request's, TICK, or a received frame's. -/
theorem fetchEvent_instr {e : Event} {i : Instr} (h : fetchEvent e = .instr i) :
    (∃ r, e = .hostReq r ∧ i = decodeRequest r) ∨ (e = .tick ∧ i = .tick) ∨
      ∃ b, e = .frameAtTick b ∧ decodeFrameBytes .toBlock b = .ok i := by
  cases e with
  | hostReq r => simp [fetchEvent] at h; exact .inl ⟨r, rfl, h.symm⟩
  | tick => simp [fetchEvent] at h; exact .inr (.inl ⟨rfl, h.symm⟩)
  | rxArrive b => simp [fetchEvent] at h
  | frameAtTick b =>
    refine .inr (.inr ⟨b, rfl, ?_⟩)
    simp only [fetchEvent, decode] at h
    split at h <;> simp_all
  | reset => simp [fetchEvent] at h

end Sys2Proof.Machine
end

