-- ==== Sys2Proof/Laws/PerInstr.lean ====
section
/-! SUPPORT. Statements about every operation as syntax, one lemma per constructor of `Instr`. -/

namespace Sys2Proof.Laws.EncodedLength

/-- A well-formed operation whose encoding is a frame encodes to exactly 250 bytes (spec/30_encoding.md R70). -/
def Statement (i : Instr) : Prop :=
  i.wellFormed = true → ∀ dir w, encode i = some (.frame dir w) → w.length = Config.frameLen

/-- The length of a frame image whose payload field is well formed. -/
theorem of_image {c l : Byte} {q r : U16} {p w : List Byte} {d e : Direction} (hp : payloadFieldOk p = true)
    (h : some (Encoded.frame d (Machine.frameImage c q l p r)) = some (.frame e w)) : w.length = Config.frameLen := by
  cases h
  have h240 : p.length = 240 := by simpa [payloadFieldOk, Config.chunk] using hp
  rw [Machine.frameImage_length, h240]

theorem startFrame (dir : Direction) (q : U16) (l : Byte) (p : List Byte) (r : U16) :
    Statement (.startFrame dir q l p r) := fun hw _ _ h => of_image (Bool.and_eq_true_iff.mp hw).1 h
theorem dataFrame (dir : Direction) (q : U16) (l : Byte) (p : List Byte) (r : U16) :
    Statement (.dataFrame dir q l p r) := fun hw _ _ h => of_image (Bool.and_eq_true_iff.mp hw).1 h
theorem endFrame (dir : Direction) (q : U16) (l : Byte) (p : List Byte) (r : U16) :
    Statement (.endFrame dir q l p r) := fun hw _ _ h => of_image (Bool.and_eq_true_iff.mp hw).1 h
theorem ackFrame (q : U16) (l : Byte) (p : List Byte) (r : U16) :
    Statement (.ackFrame q l p r) := fun hw _ _ h => of_image hw h
theorem nackFrame (q : U16) (l : Byte) (p : List Byte) (r : U16) :
    Statement (.nackFrame q l p r) := fun hw _ _ h => of_image hw h
theorem crc16 (m : List Byte) :
    Statement (.crc16 m) := fun _ _ _ h => by cases h
theorem encode (c : Byte) (q : U16) (b : List Byte) :
    Statement (.encode c q b) := fun _ _ _ h => by cases h
theorem decode (w : List Byte) :
    Statement (.decode w) := fun _ _ _ h => by cases h
theorem sendImage (id : U16) (n : Nat) (p : List Host.Cell) :
    Statement (.sendImage id n p) := fun _ _ _ h => by cases h
theorem crcBit (d : Bool) :
    Statement (.crcBit d) := fun _ _ _ h => by cases h
theorem crcByte (b : Byte) :
    Statement (.crcByte b) := fun _ _ _ h => by cases h
theorem parsePrefix (b : List Byte) (x : U16) :
    Statement (.parsePrefix b x) := fun _ _ _ h => by cases h
theorem poll :
    Statement .poll := fun _ _ _ h => by cases h
theorem emit :
    Statement .emit := fun _ _ _ h => by cases h
theorem waitForAck :
    Statement .waitForAck := fun _ _ _ h => by cases h
theorem tick :
    Statement .tick := fun _ _ _ h => by cases h
theorem onAck :
    Statement .onAck := fun _ _ _ h => by cases h
theorem sendConfirm (c : FailCause) :
    Statement (.sendConfirm c) := fun _ _ _ h => by cases h
theorem fail (c : FailCause) :
    Statement (.fail c) := fun _ _ _ h => by cases h
theorem sendData (k : U16) :
    Statement (.sendData k) := fun _ _ _ h => by cases h
theorem sendEnd :
    Statement .sendEnd := fun _ _ _ h => by cases h

end Sys2Proof.Laws.EncodedLength
end

