-- ==== Sys2Proof/Tests/Slice0.lean ====
section
/-! SUPPORT. Tests of single steps, with results from spec/95_test_vectors.md (V and P numbers), and for each statement with
hypotheses a witness that meets them. -/

namespace Sys2Proof.Tests

set_option Elab.async false

open Sys2Proof.Machine

/-! Helpers -/

/-- `n` zero bytes. -/
def zeros (n : Nat) : List Byte := List.replicate n 0#8

/-- The next state of an outcome, if it is one. -/
def nextOf : Result → Option State
  | .next t => some t
  | .fault _ => none
  | .refused _ => none

theorem next_of_nextOf {r : Result} {t : State} (h : nextOf r = some t) : r = .next t := by
  cases r <;> simp_all [nextOf]

/-- The outcome is a next state that passes the check. -/
def leads (r : Result) (check : State → Bool) : Bool :=
  match r with
  | .next t => check t
  | .fault _ => false
  | .refused _ => false

/-- The outcome is this refusal. -/
def refuses (r : Result) (why : Refusal) : Bool :=
  match r with
  | .refused q => decide (q = why)
  | .next _ => false
  | .fault _ => false

/-- The frames sent, in order, agree with these in the 248 bytes before the trailer (`test_encode` checks a trailer). -/
def sent (t : State) (fs : List (List Byte)) : Bool :=
  decide ((framesOf t.outputs).map (fun f => f.take 248) = fs.map (fun f => f.take 248))

/-- The decoder reads this operation. -/
def reads (e : Encoded) (i : Instr) : Bool :=
  match decode e with
  | .ok j => decide (j = i)
  | .error _ => false

/-- The decoder rejects by this reason. -/
def rejects (e : Encoded) (why : DecodeError) : Bool :=
  match decode e with
  | .ok _ => false
  | .error w => decide (w = why)

/-- V14: START, sequence 0, image 0x0102, one packet. -/
def v14 : List Byte :=
  [0x5A, 0xA5, 0x55, 0xAA, 0x01, 0x00, 0x00, 0x04, 0x02, 0x01, 0x01, 0x00] ++ zeros 236 ++ [0x1F, 0x72]
/-- V15: DATA, sequence 1, body 41 42 43. -/
def v15 : List Byte :=
  [0x5A, 0xA5, 0x55, 0xAA, 0x02, 0x01, 0x00, 0x03, 0x41, 0x42, 0x43] ++ zeros 237 ++ [0x4E, 0x3B]
/-- V16: END, sequence 2. -/
def v16 : List Byte := [0x5A, 0xA5, 0x55, 0xAA, 0x03, 0x02, 0x00, 0x00] ++ zeros 240 ++ [0xBD, 0xB3]
/-- V17a: ACK, sequence 1. -/
def v17a : List Byte := [0x5A, 0xA5, 0x55, 0xAA, 0x04, 0x01, 0x00, 0x00] ++ zeros 240 ++ [0xBC, 0xF4]
/-- V17c: NACK, sequence 1. -/
def v17c : List Byte := [0x5A, 0xA5, 0x55, 0xAA, 0x05, 0x01, 0x00, 0x00] ++ zeros 240 ++ [0x81, 0x19]

/-- 11 bytes that begin with an ACK for this sequence below 256. -/
def ackBytes (q : Byte) : List Byte := [0x5A, 0xA5, 0x55, 0xAA, 0x04, q, 0x00, 0x00, 0x00, 0x00, 0x00]
/-- 11 bytes that begin with a NACK for this sequence below 256. -/
def nackBytes (q : Byte) : List Byte := [0x5A, 0xA5, 0x55, 0xAA, 0x05, q, 0x00, 0x00, 0x00, 0x00, 0x00]

/-- 41 42 43 as a PAYLOAD. -/
def abc : List Host.Cell := [(0, 0x41), (1, 0x42), (2, 0x43)]

/-- The state of P2 while its START frame is in flight. -/
def atStart (ticks : BitVec 8) (fifo : List Byte) : State :=
  { State.reset with
    fsm := .awaitStartAck, imageId := 0x0102, payloadLen := 3, totalPackets := 1, curLen := 4, tickCnt := ticks,
    txf := frameBuffer v14, rxFifo := fifo, payload := abc }

/-- The state of P2 while its DATA frame is in flight (B5). -/
def atData (ticks : BitVec 8) (retries : BitVec 2) (fifo : List Byte) : State :=
  { State.reset with
    fsm := .awaitDataAck, seq := 1, imageId := 0x0102, payloadLen := 3, totalPackets := 1, curLen := 3,
    retryCnt := retries, tickCnt := ticks, txf := frameBuffer v15, rxFifo := fifo, payload := abc }

/-- The state of P2 while its END frame is in flight. -/
def atEnd (ticks : BitVec 8) (fifo : List Byte) : State :=
  { State.reset with
    fsm := .awaitEndAck, seq := 2, chunkIdx := 1, imageId := 0x0102, payloadLen := 3, totalPackets := 1, sentBytes := 3,
    tickCnt := ticks, txf := frameBuffer v16, rxFifo := fifo, payload := abc }

/-- With these events to come. -/
def before (es : List Event) (s : State) : State := { s with pending := es }

/-- R7, R8: the parameters agree with each other. -/
theorem test_parameters : Config.pollsData * Config.pollPeriodMs = Config.timeoutDataMs ∧
    Config.pollsCtrl * Config.pollPeriodMs = Config.timeoutCtrlMs ∧ Config.maxPackets * Config.chunk = Config.maxPayload ∧
    Config.hdrLen + 1 + 2 + 1 + Config.chunk = Config.crcCover ∧ Config.crcCover + 2 = Config.frameLen := by decide

/-! Well-formedness: for each check a term that it accepts and terms that it refuses (R70 to R80, R121, R142, R170) -/

theorem test_wf_payload_field : (Instr.ackFrame 1 0 (zeros 240) 0).wellFormed = true ∧
    (Instr.ackFrame 1 0 (zeros 239) 0).wellFormed = false ∧ (Instr.nackFrame 1 0 (zeros 241) 0).wellFormed = false := by
  decide +kernel

theorem test_wf_sent_length : (Instr.startFrame .toPeer 0 4 (zeros 240) 0).wellFormed = true ∧
    (Instr.startFrame .toPeer 0 5 (zeros 240) 0).wellFormed = false ∧
    (Instr.startFrame .toBlock 0 5 (zeros 240) 0).wellFormed = true ∧
    (Instr.dataFrame .toPeer 1 240 (zeros 240) 0).wellFormed = true ∧
    (Instr.dataFrame .toPeer 1 0 (zeros 240) 0).wellFormed = false ∧
    (Instr.dataFrame .toPeer 1 241 (zeros 240) 0).wellFormed = false ∧
    (Instr.endFrame .toPeer 2 1 (zeros 240) 0).wellFormed = false := by decide +kernel

theorem test_wf_command : (Instr.encode 1 0 []).wellFormed = true ∧ (Instr.encode 5 0 []).wellFormed = true ∧
    (Instr.encode 0 0 []).wellFormed = false ∧ (Instr.encode 6 0 []).wellFormed = false := by decide +kernel

theorem test_wf_payload_cells : (Instr.sendImage 1 3 abc).wellFormed = true ∧
    (Instr.sendImage 1 2 abc).wellFormed = false ∧ (Instr.sendImage 1 3 [(1, 0x42), (0, 0x41)]).wellFormed = false ∧
    (Instr.sendImage 1 3 [(0, 0x00)]).wellFormed = false := by decide +kernel

theorem test_wf_reply_prefix : (Instr.parsePrefix (zeros 7) 0).wellFormed = true ∧
    (Instr.parsePrefix (zeros 6) 0).wellFormed = false := by decide +kernel

/-! Decoding: words written out byte by byte from R70, R71, R74, R83 -/

theorem test_decode_start : reads (.frame .toPeer v14)
    (.startFrame .toPeer 0 4 ([0x02, 0x01, 0x01, 0x00] ++ zeros 236) 0x721F) = true := by decide +kernel
theorem test_decode_data : reads (.frame .toPeer
    ([0x5A, 0xA5, 0x55, 0xAA, 0x02, 0x34, 0x12, 0xF0] ++ List.replicate 240 0x77#8 ++ [0xD9, 0x1A]))
    (.dataFrame .toPeer 0x1234 240 (List.replicate 240 0x77#8) 0x1AD9) = true := by decide +kernel
theorem test_decode_end : reads (.frame .toPeer v16) (.endFrame .toPeer 2 0 (zeros 240) 0xB3BD) = true := by
  decide +kernel
theorem test_decode_ack : reads (.frame .toBlock v17a) (.ackFrame 1 0 (zeros 240) 0xF4BC) = true := by decide +kernel
theorem test_decode_nack : reads (.frame .toBlock v17c) (.nackFrame 1 0 (zeros 240) 0x1981) = true := by decide +kernel
theorem test_decode_host_requests : reads (.request { op := 0, bytes := [0x41] }) (.crc16 [0x41]) = true ∧
    reads (.request { op := 1, command := 2, sequence := 1, bytes := [0x41] }) (.encode 2 1 [0x41]) = true ∧
    reads (.request { op := 2, bytes := [0x41] }) (.decode [0x41]) = true ∧
    reads (.request { op := 3, imageId := 7, payloadLen := 3, payload := abc }) (.sendImage 7 3 abc) = true := by
  decide +kernel
theorem test_decode_rejects : rejects (.frame .toBlock (v17a.take 249)) (.frameSize 249) = true ∧
    rejects (.frame .toBlock (zeros 250)) (.frameHeader 0) = true ∧
    rejects (.frame .toBlock (v17a.set 4 0x06)) (.frameCommand 6) = true ∧
    rejects (.frame .toPeer v17a) (.neverSent 4) = true ∧ rejects (.frame .toPeer v17c) (.neverSent 5) = true := by
  decide +kernel

/-! The wire commands -/

theorem test_start_sent : leads (exec (.startFrame .toPeer 0 4 ([0x02, 0x01, 0x01, 0x00] ++ zeros 236) 0) State.reset)
    (fun t => decide (t.fsm = .awaitStartAck ∧ t.curLen = 4) && sent t [v14]) = true := by decide +kernel
theorem test_start_received : leads (exec (.startFrame .toBlock 1 4 (zeros 240) 0) (atData 5 0 []))
    (fun t => decide (t.tickCnt = 6 ∧ t.rxFifo = [] ∧ t.outputs = [])) = true := by decide +kernel
/-- R84: a length that disagrees with the command is never sent. -/
theorem test_length_never_sent : refuses (exec (.startFrame .toPeer 0 5 (zeros 240) 0) State.reset) (.lengthNeverSent 1 5) = true ∧
    refuses (exec (.dataFrame .toPeer 1 0 (zeros 240) 0) State.reset) (.lengthNeverSent 2 0) = true ∧
    refuses (exec (.endFrame .toPeer 2 1 (zeros 240) 0) State.reset) (.lengthNeverSent 3 1) = true := by decide +kernel
/-- R84: a frame with command 6, and one with another header, are other content. -/
theorem test_no_frame_of_the_table :
    leads (step (before [.frameAtTick (v17a.set 4 0x06)] (atData 98 0 [])))
      (fun t => decide (t.fsm = .awaitDataAck ∧ t.tickCnt = 99 ∧ t.rxFifo = [] ∧ t.outputs = [])) = true ∧
    leads (step (before [.frameAtTick (v17a.set 0 0x5B)] (atData 98 0 [])))
      (fun t => decide (t.fsm = .awaitDataAck ∧ t.tickCnt = 99 ∧ t.rxFifo = [] ∧ t.outputs = [])) = true := by decide +kernel
theorem test_data_sent : leads (exec (.dataFrame .toPeer 1 3 ([0x41, 0x42, 0x43] ++ zeros 237) 0) State.reset)
    (fun t => decide (t.fsm = .awaitDataAck ∧ t.seq = 1) && sent t [v15]) = true := by decide +kernel
theorem test_end_sent : leads (exec (.endFrame .toPeer 2 0 (zeros 240) 0) State.reset)
    (fun t => decide (t.fsm = .awaitEndAck) && sent t [v16]) = true := by decide +kernel
/-- P2 step 3. -/
theorem test_ack_confirms : leads (exec (.ackFrame 1 0 (zeros 240) 0xF4BC) (atData 0 1 []))
    (fun t => decide (t.fsm = .awaitEndAck ∧ t.seq = 2 ∧ t.sentBytes = 3 ∧ t.retryCnt = 0) && sent t [v16]) = true := by decide +kernel
/-- P6: an ACK for sequence 9. -/
theorem test_ack_of_other_sequence : leads (exec (.ackFrame 9 0 (zeros 240) 0) (atData 0 0 []))
    (fun t => decide (t.fsm = .awaitDataAck ∧ t.tickCnt = 1 ∧ t.rxFifo = [] ∧ t.outputs = [])) = true := by decide +kernel
/-- V32. -/
theorem test_nack_resends : leads (exec (.nackFrame 7 0 (zeros 240) 0) (atData 5 0 []))
    (fun t => decide (t.retryCnt = 1 ∧ t.tickCnt = 0 ∧ t.lastOutcome = some .nack ∧
      t.outputs = [.logNack 1 7, .txFrame v15])) = true := by decide +kernel
/-- V32a. -/
theorem test_nack_fails : leads (exec (.nackFrame 7 0 (zeros 240) 0) (atData 5 3 []))
    (fun t => decide (t.fsm = .failed ∧ t.failStage = some .data ∧ t.failIndex = 1 ∧ t.failCause = some .nack ∧
      t.outputs = [.logNack 1 7])) = true := by decide +kernel

/-! The CRC unit and the codec -/

/-- V8. -/
theorem test_crc16_check_value : leads (exec (.crc16 [0x31, 0x32, 0x33, 0x34, 0x35, 0x36, 0x37, 0x38, 0x39]) State.reset)
    (fun t => decide (t.answer = .crc 0x4B37 ∧ t.crc = 0)) = true := by decide +kernel
/-- V11. -/
theorem test_crc16_ack_head : leads (exec (.crc16 [0x5A, 0xA5, 0x55, 0xAA, 0x04, 0x00, 0x00]) State.reset)
    (fun t => decide (t.answer = .crc 0xE595)) = true := by decide +kernel
/-- V3's trace, its third value. -/
theorem test_crcBit_shift : leads (exec (.crcBit false) { State.reset with crc := 0x9FFE })
    (fun t => decide (t.crc = 0x4FFF)) = true := by decide +kernel
/-- V3's trace, its second value. -/
theorem test_crcBit_feedback : leads (exec (.crcBit false) { State.reset with crc := 0x7FFF })
    (fun t => decide (t.crc = 0x9FFE)) = true := by decide +kernel
/-- V6. -/
theorem test_crcByte : leads (exec (.crcByte 0x41) { State.reset with crc := 0xFFFF })
    (fun t => decide (t.crc = 0x707F)) = true := by decide +kernel
/-- V15's CRC, in pieces short enough to evaluate. -/
theorem crc_v15 : crc16 (v15.take 248) = 0x3B4E#16 := by
  have h : v15.take 248 = [0x5A, 0xA5, 0x55, 0xAA, 0x02, 0x01, 0x00, 0x03, 0x41, 0x42, 0x43] ++ (zeros 40 ++ (zeros 40 ++
      (zeros 40 ++ (zeros 40 ++ (zeros 40 ++ zeros 37))))) := by decide +kernel
  have h0 : crcStream 0xFFFF#16 [0x5A, 0xA5, 0x55, 0xAA, 0x02, 0x01, 0x00, 0x03, 0x41, 0x42, 0x43] = 0xEB7A#16 := by decide +kernel
  have h1 : crcStream 0xEB7A#16 (zeros 40) = 0xBFB2#16 := by decide +kernel
  have h2 : crcStream 0xBFB2#16 (zeros 40) = 0x050E#16 := by decide +kernel
  have h3 : crcStream 0x050E#16 (zeros 40) = 0x7EA7#16 := by decide +kernel
  have h4 : crcStream 0x7EA7#16 (zeros 40) = 0x1977#16 := by decide +kernel
  have h5 : crcStream 0x1977#16 (zeros 40) = 0x49DB#16 := by decide +kernel
  have h6 : crcStream 0x49DB#16 (zeros 37) = 0x3B4E#16 := by decide +kernel
  rw [h, crc16, Config.crcInit]
  simp only [crcStream_append]
  rw [h0, h1, h2, h3, h4, h5, h6]
/-- V15. -/
theorem test_encode : exec (.encode 2 1 [0x41, 0x42, 0x43]) State.reset
    = .next { State.reset with answer := .bytes v15 } := by
  have h : coveredBytes 2 1 [0x41, 0x42, 0x43] = v15.take 248 := by decide +kernel
  have hv : v15.take 248 ++ bytesLE16 0x3B4E#16 = v15 := by decide +kernel
  have he : encodeFrame 2 1 [0x41, 0x42, 0x43] = v15 := by rw [encodeFrame, h, crc_v15, hv]
  rw [← he]; rfl
/-- V19, V19b. -/
theorem test_encode_refusals : leads (exec (.encode 2 1 (zeros 241)) State.reset)
      (fun t => decide (t.answer = .error (.payloadTooLarge 241))) = true ∧
    refuses (exec (.encode 0 1 []) State.reset) (.commandOutsideEnum 0) = true ∧
    refuses (exec (.encode 6 1 []) State.reset) (.commandOutsideEnum 6) = true := by decide +kernel
/-- V20. -/
theorem test_decode_frame : decodeFrame v15 = .ok
    { header := 0xAA55A55A, command := 2, sequence := 1, length := 3, payload := [0x41, 0x42, 0x43] ++ zeros 237,
      crc := 0x3B4E } := by
  have hc : crcValid v15 = true := by rw [crcValid, crc_v15]; decide +kernel
  rw [decodeFrame, if_pos (by decide +kernel), if_pos (by decide +kernel), if_pos hc]
  exact congrArg Except.ok (by decide +kernel)
/-- V22, V23b, V24a. -/
theorem test_decode_errors : leads (exec (.decode (v15.take 249)) State.reset)
      (fun t => decide (t.answer = .error (.badSize 249))) = true ∧
    leads (exec (.decode ((v15.set 3 0x00).set 100 0x01)) State.reset)
      (fun t => decide (t.answer = .error (.badHeader 0x0055A55A))) = true ∧
    decodeFrame (v15.set 249 0xBB) = .error (.checksumMismatch 0x3B4E 0xBB4E) := by
  have h : (v15.set 249 0xBB).take 248 = v15.take 248 := by decide +kernel
  have hc : ¬ crcValid (v15.set 249 0xBB) = true := by rw [crcValid, h, crc_v15]; decide +kernel
  refine ⟨by decide +kernel, by decide +kernel, ?_⟩
  rw [decodeFrame, if_pos (by decide +kernel), if_pos (by decide +kernel), if_neg hc, h, crc_v15]
  exact congrArg Except.error (by decide +kernel)

/-! The session -/

/-- P2 step 0. -/
theorem test_sendImage : leads (exec (.sendImage 0x0102 3 abc) State.reset)
    (fun t => decide (t.fsm = .awaitStartAck ∧ t.totalPackets = 1 ∧ t.payload = abc ∧ t.answer = .accepted) &&
      sent t [v14]) = true := by decide +kernel
/-- V36, V35i. -/
theorem test_sendImage_turned_away : leads (exec (.sendImage 1 15728401 []) (atData 5 0 []))
      (fun t => decide (t.answer = .error .busy ∧ t.fsm = .awaitDataAck)) = true ∧
    leads (exec (.sendImage 1 15728401 []) State.reset) (fun t => decide (t.answer = .error .sessionTooLarge)) = true := by
  decide +kernel
/-- V35d: the second chunk of 241 bytes is one byte. -/
theorem test_sendData_last_chunk : leads (exec (.sendData 1)
      { State.reset with fsm := .awaitDataAck, seq := 1, payloadLen := 241, totalPackets := 2, payload := [(240, 0x99)] })
    (fun t => decide (t.seq = 2 ∧ t.curLen = 1 ∧ (t.txf.toList.take 9).drop 4 = [0x02, 0x02, 0x00, 0x01, 0x99])) = true := by
  decide +kernel
/-- V16, from the state of P2 step 3. -/
theorem test_sendEnd : leads (exec .sendEnd (atData 0 0 []))
    (fun t => decide (t.fsm = .awaitEndAck ∧ t.seq = 2 ∧ t.curLen = 0) && sent t [v16]) = true := by
  decide +kernel

/-! The sequencer's steps -/

/-- V26, V27a, V28a. -/
theorem test_parsePrefix : leads (exec (.parsePrefix (ackBytes 1) 1) State.reset)
      (fun t => decide (t.answer = .parsed .ack)) = true ∧
    leads (exec (.parsePrefix ((ackBytes 1).set 6 0x01) 1) State.reset) (fun t => decide (t.answer = .parsed .other)) = true ∧
    leads (exec (.parsePrefix (nackBytes 9) 1) State.reset) (fun t => decide (t.answer = .parsed (.nack 9))) = true := by
  decide +kernel
/-- V29, V29a, V29b. -/
theorem test_parsePrefix_other : leads (exec (.parsePrefix ((ackBytes 1).set 4 0x03) 1) State.reset)
      (fun t => decide (t.answer = .parsed .other)) = true ∧
    leads (exec (.parsePrefix [0xAA, 0x55, 0xA5, 0x5A, 0x04, 0x01, 0x00] 1) State.reset)
      (fun t => decide (t.answer = .parsed .other)) = true ∧
    leads (exec (.parsePrefix (0x00 :: ackBytes 1) 1) State.reset) (fun t => decide (t.answer = .parsed .other)) = true := by
  decide +kernel
/-- V31a: the good ACK behind another is lost. -/
theorem test_poll_discards : leads (exec .poll (atData 6 0 (ackBytes 9 ++ ackBytes 1)))
    (fun t => decide (t.rxFifo = [] ∧ t.tickCnt = 6 ∧ t.lastOutcome = none)) = true := by decide +kernel
/-- V30a. -/
theorem test_poll_ack : leads (exec .poll (atData 6 0 ((ackBytes 1).set 10 0xEE)))
    (fun t => decide (t.fsm = .awaitEndAck ∧ t.sentBytes = 3 ∧ t.tickCnt = 0) && sent t [v16]) = true := by
  decide +kernel
theorem test_emit : leads (exec .emit (atData 5 2 [0x00]))
    (fun t => decide (t.tickCnt = 0 ∧ t.retryCnt = 2 ∧ t.rxFifo = [0x00] ∧ t.outputs = [.txFrame v15])) = true := by
  decide +kernel
/-- P11 (b), its last reply. -/
theorem test_waitForAck_ack : leads (exec .waitForAck (before [.tick, .rxArrive (ackBytes 2), .tick, .tick] (atEnd 7 [])))
    (fun t => decide (t.answer = .waited (some .ack) ∧ t.fsm = .done ∧ t.tickCnt = 2 ∧ t.pending = [.tick])) = true := by
  decide +kernel
/-- P5's wait. -/
theorem test_waitForAck_timeout : leads (exec .waitForAck (before (List.replicate 201 .tick) (atStart 7 [])))
    (fun t => decide (t.answer = .waited (some .timeout) ∧ t.fsm = .failed ∧ t.pending = [.tick])) = true := by
  decide +kernel
/-- V33c. -/
theorem test_tick_late_ack : leads (exec .tick (atData 99 0 (ackBytes 1)))
    (fun t => decide (t.fsm = .awaitEndAck ∧ t.chunkIdx = 1 ∧ t.sentBytes = 3 ∧ t.retryCnt = 0) &&
      sent t [v15, v16]) = true := by decide +kernel
/-- V34, V34a, V34c. -/
theorem test_tick_start_limit : leads (exec .tick (atStart 199 []))
      (fun t => decide (t.fsm = .failed ∧ t.failStage = some .start ∧ t.failIndex = 0 ∧ t.failCause = some .timeout)) = true ∧
    leads (exec .tick (atStart 100 [])) (fun t => decide (t.fsm = .awaitStartAck ∧ t.tickCnt = 101)) = true ∧
    leads (exec .tick { atEnd 4 (ackBytes 2) with fsm := .done }) (fun t => decide (t.rxFifo = ackBytes 2 ∧ t.tickCnt = 4))
      = true := by decide +kernel
/-- P2 step 1. -/
theorem test_onAck_start : leads (exec .onAck (atStart 1 []))
    (fun t => decide (t.fsm = .awaitDataAck ∧ t.seq = 1 ∧ t.chunkIdx = 0) && sent t [v15]) = true := by
  decide +kernel
/-- P2 step 4. -/
theorem test_onAck_end : leads (exec .onAck (atEnd 1 [])) (fun t => decide (t.fsm = .done ∧ t.seq = 2 ∧ t.outputs = []))
    = true := by decide +kernel
/-- V33. -/
theorem test_sendConfirm_resends : leads (exec (.sendConfirm .timeout) (atData 99 0 []))
    (fun t => decide (t.retryCnt = 1 ∧ t.tickCnt = 0 ∧ t.outputs = [.txFrame v15])) = true := by decide +kernel
/-- V34b. -/
theorem test_sendConfirm_end_fails : leads (exec (.sendConfirm .nack) (atEnd 6 []))
    (fun t => decide (t.fsm = .failed ∧ t.failStage = some .final ∧ t.failCause = some .nack ∧ t.outputs = [])) = true := by
  decide +kernel
/-- V33b, after its outcome. -/
theorem test_fail : leads (exec (.fail .timeout) (atData 99 3 []))
    (fun t => decide (t.fsm = .failed ∧ t.failStage = some .data ∧ t.failIndex = 1 ∧ t.tickCnt = 99)) = true := by
  decide +kernel

/-! The step -/

theorem test_step_host_request : leads (step (State.reset.withFetchWord 8 3))
    (fun t => decide (t.fsm = .awaitStartAck ∧ t.pending = [])) = true := by decide +kernel
theorem test_step_frame : leads (step (State.reset.withFetchWord 40 0x04AA55A55A))
    (fun t => decide (t.fsm = .idle ∧ t.rxFifo.length = 250 ∧ t.rxFifo.take 5 = [0x5A, 0xA5, 0x55, 0xAA, 0x04])) = true := by
  decide +kernel

/-! Witnesses: for each statement with hypotheses, a state and operands that meet them, at the ends of the ranges -/

theorem witness_CrcByteIsEightBitSteps : ({ State.reset with crc := 0xFFFF#16 } : State).crc = 0xFFFF#16 := rfl
theorem witness_Crc16IsAffine : ([0x01#8, 0x02#8] : List Byte).length = [0xFF#8, 0x00#8].length ∧
    ([0xFF#8, 0x00#8] : List Byte).length = [0x10#8, 0x7F#8].length := by decide +kernel
theorem witness_SingleBitFlipChangesCrc : 8 < ([0x31, 0x32, 0x33, 0x34, 0x35, 0x36, 0x37, 0x38, 0x39] : List Byte).length ∧
    7 < 8 := by decide +kernel
theorem witness_ZeroResidueIsValidTrailer : v15.length = 250 := by decide +kernel
/-- The ends of both ranges: commands 1 and 5, bodies of 0 and of 240 bytes. -/
theorem witness_EncodeBuildsTheFrame : (1 ≤ (1#8).toNat ∧ (1#8).toNat ≤ 5 ∧ (zeros 240).length ≤ 240) ∧
    1 ≤ (5#8).toNat ∧ (5#8).toNat ≤ 5 ∧ (zeros 0).length ≤ 240 := by decide +kernel
theorem witness_EncodeOutsideItsDomain : (1 ≤ (5#8).toNat ∧ (5#8).toNat ≤ 5 ∧ 240 < (zeros 241).length) ∧
    ¬ (1 ≤ (0#8).toNat ∧ (0#8).toNat ≤ 5) ∧ ¬ (1 ≤ (6#8).toNat ∧ (6#8).toNat ≤ 5) := by decide +kernel
theorem witness_DecodeReportsTheFirstFailingCheck : (v15.take 249).length ≠ 250 ∧ (v15 ++ zeros 1).length ≠ 250 ∧
    ((zeros 250).length = 250 ∧ (zeros 250).take 4 ≠ [0x5A#8, 0xA5#8, 0x55#8, 0xAA#8]) ∧
    v15.length = 250 ∧ v15.take 4 = [0x5A#8, 0xA5#8, 0x55#8, 0xAA#8] := by decide +kernel
/-- The two outcomes of the CRC check are both met: V15, and V15 with its last byte changed. -/
theorem witness_DecodeReportsTheFirstFailingCheck_crc : crc16 (v15.take 248) = 0x3B4E#16 ∧
    (0x3B4E#16).toNat = (byteAt v15 248).toNat + 256 * (byteAt v15 249).toNat ∧
    (v15.set 249 0xBB).take 248 = v15.take 248 ∧ byteAt (v15.set 249 0xBB) 249 = 0xBB :=
  ⟨crc_v15, by decide +kernel, by decide +kernel, by decide +kernel⟩
theorem witness_ValidatorComparesAllSixteenBits : v15.length = 250 ∧ v15.take 4 = [0x5A#8, 0xA5#8, 0x55#8, 0xAA#8] := by
  decide +kernel
theorem witness_DecodeOfEncodedFrameRestoresFields : 1 ≤ (5#8).toNat ∧ (5#8).toNat ≤ 5 ∧ (zeros 240).length ≤ 240 := by
  decide +kernel
theorem witness_EncodeOfCanonicalFrameRestoresBytes :
    exec (.decode v15) State.reset = .next { State.reset with answer := (.frame
      { header := 0xAA55A55A, command := 2, sequence := 1, length := 3, payload := [0x41, 0x42, 0x43] ++ zeros 237,
        crc := 0x3B4E }) } ∧
    (1 ≤ (2#8).toNat ∧ (2#8).toNat ≤ 5 ∧ (3#8).toNat ≤ 240) ∧
    ∀ i, (3#8).toNat ≤ i → i < 240 → byteAt ([0x41, 0x42, 0x43] ++ zeros 237) i = 0 := by
  refine ⟨?_, by decide, fun i h1 h2 => ?_⟩
  · show execDecode v15 State.reset = _
    rw [execDecode, test_decode_frame]; rfl
  · simp only [byteAt, zeros, List.getD_eq_getElem?_getD]
    rw [List.getElem?_append_right (by simpa using h1), List.getElem?_replicate]
    split <;> rfl
theorem witness_CodecRequestsLeaveTheSession :
    (⟨0#2, 0, 0, [0x41], 0, 0, []⟩ : HostRequest).op ≠ 3#2 ∧
    exec (decodeRequest { op := 0#2, bytes := [0x41] }) (atData 5 1 []) =
      .next { atData 5 1 [] with answer := .crc (crc16 [0x41]) } := ⟨by decide, rfl⟩
/-- An operation with an encoding, with every operand at the end of its range, and one without. -/
theorem witness_DecodeOfEncodeIsTheOperation :
    ((Instr.dataFrame .toPeer 0xFFFF 240 (List.replicate 240 0xFF#8) 0xFFFF).wellFormed = true ∧
      (encode (.dataFrame .toPeer 0xFFFF 240 (List.replicate 240 0xFF#8) 0xFFFF)).isSome = true) ∧
    encode (.sendData 0) = none := by decide +kernel
theorem witness_EncodeOfDecodedFrameIsItsBytes :
    reads (.frame .toBlock v17a) (.ackFrame 1 0 (zeros 240) 0xF4BC) = true := test_decode_ack
theorem witness_StepRunsTheDecodedOperation :
    (before [.hostReq { op := 0#2 }] State.reset).pending = .hostReq { op := 0#2 } :: [] ∧
    (before [.tick] State.reset).pending = .tick :: [] ∧
    (before [.frameAtTick v17a] State.reset).pending = .frameAtTick v17a :: [] ∧
    reads (.frame .toBlock v17a) (.ackFrame 1 0 (zeros 240) 0xF4BC) = true ∧
    (before [.frameAtTick []] State.reset).pending = .frameAtTick [] :: [] ∧
    rejects (.frame .toBlock []) (.frameSize 0) = true ∧
    (before [.frameAtTick (v17a.set 4 0x06)] (atData 98 0 [])).pending = .frameAtTick (v17a.set 4 0x06) :: [] ∧
    rejects (.frame .toBlock (v17a.set 4 0x06)) (.frameCommand 6) = true ∧
    ((v17a.set 4 0x06).length = 250 ∧ (atData 98 0 []).fsm = Stage.data.fsm ∧
      (atData 98 0 []).tickCnt.toNat + 1 ≠ Stage.data.limit ∧ (atData 98 0 []).rxFifo = []) :=
  ⟨rfl, rfl, rfl, test_decode_ack, rfl, by decide, rfl, by decide +kernel, by decide +kernel⟩
theorem witness_ArrivalsAppendAndIdleKeeps :
    (before [.rxArrive [0x5A]] State.reset).pending = .rxArrive [0x5A] :: [] ∧ State.reset.pending = [] := ⟨rfl, rfl⟩
theorem witness_HardwareResetAbandonsSilently :
    (before [.reset, .tick] (atData 5 2 [0x00])).pending = .reset :: [.tick] := rfl
theorem witness_ParsePrefixExaminesSevenBytes : 7 ≤ (zeros 7).length ∧ (zeros 6).length < 7 := by decide +kernel
theorem witness_PollBelowElevenBytesReadsNothing :
    (atData 5 0 (zeros 10)).fsm.busy = true ∧ (atData 5 0 (zeros 10)).rxFifo.length < 11 := by decide +kernel
theorem witness_PollDropsAckForAnotherSequence :
    (atData 5 0 (ackBytes 9)).fsm.busy = true ∧ 11 ≤ (atData 5 0 (ackBytes 9)).rxFifo.length ∧
    (atData 5 0 (ackBytes 9)).rxFifo.take 5 = [0x5A#8, 0xA5#8, 0x55#8, 0xAA#8, 4#8] ∧
    (byteAt (ackBytes 9) 5).toNat + 256 * (byteAt (ackBytes 9) 6).toNat ≠ (atData 5 0 (ackBytes 9)).seq.toNat := by
  decide +kernel
theorem witness_PollReactsToTheFirstReply :
    (atData 5 0 (ackBytes 1)).fsm.busy = true ∧ 11 ≤ (ackBytes 1).length ∧ prefixOf (ackBytes 1) 1 = .ack ∧
    prefixOf (nackBytes 7) 1 = .nack 7 ∧ prefixOf (zeros 11) 1 = .other := by decide +kernel
theorem witness_PollIgnoresBytesBehindThePrefix :
    (atData 5 0 []).fsm.busy = true ∧ 11 ≤ (ackBytes 1).length ∧ 11 ≤ v17a.length ∧ (ackBytes 1).take 7 = v17a.take 7 ∧
    ackBytes 1 ≠ v17a := by decide +kernel
theorem witness_EmitSendsTxfThenPolls :
    (atStart 5 (zeros 10)).fsm.busy = true ∧ (atStart 5 (zeros 10)).rxFifo.length < 11 := by decide +kernel
/-- One tick below each limit and at it. -/
theorem witness_TickCountsOrTimesOut : State.reset.fsm.busy = false ∧
    ((atData 98 0 []).fsm = Stage.data.fsm ∧ (atData 98 0 []).tickCnt.toNat + 1 ≠ Stage.data.limit ∧
      (atData 98 0 []).rxFifo.length < 11) ∧
    ((atData 99 0 []).fsm = Stage.data.fsm ∧ (atData 99 0 []).tickCnt.toNat + 1 = Stage.data.limit) ∧
    ((atStart 199 []).fsm = Stage.start.fsm ∧ (atStart 199 []).tickCnt.toNat + 1 = Stage.start.limit) := by decide +kernel
/-- The last chunk of one, and the first of two, the second of one byte. -/
theorem witness_LateAckIsSeenByTheResend :
    (atData 99 2 (ackBytes 1)).fsm = .awaitDataAck ∧ (atData 99 2 (ackBytes 1)).tickCnt.toNat = 99 ∧
    (atData 99 2 (ackBytes 1)).retryCnt.toNat < 3 ∧ 11 ≤ (atData 99 2 (ackBytes 1)).rxFifo.length ∧
    prefixOf (atData 99 2 (ackBytes 1)).rxFifo (atData 99 2 (ackBytes 1)).seq = .ack ∧
    (atData 99 2 (ackBytes 1)).chunkIdx + 1 = (atData 99 2 (ackBytes 1)).totalPackets ∧
    ((atData 99 2 (ackBytes 1)).chunkIdx + 1).toNat < (2 : U16).toNat ∧
    240 * ((atData 99 2 (ackBytes 1)).chunkIdx + 1).toNat < (241 : U24).toNat := by decide +kernel
theorem witness_WaitTimesOutAfterTheLimit :
    (atStart 7 (zeros 10)).fsm = Stage.start.fsm ∧ (atStart 7 (zeros 10)).rxFifo.length < 11 ∧
    (before (List.replicate Stage.start.limit .tick ++ [.tick]) (atStart 7 (zeros 10))).pending
      = List.replicate Stage.start.limit .tick ++ [.tick] := ⟨rfl, by decide +kernel, rfl⟩
/-- A reply at once, and one that is whole after 98 or 198 ticks, the last that can be found. -/
theorem witness_WaitFindsTheAckAtTheNextPoll :
    ((atData 7 0 (ackBytes 1)).fsm.busy = true ∧ 11 ≤ (ackBytes 1).length ∧ prefixOf (ackBytes 1) 1 = .ack ∧
      prefixOf (nackBytes 9) 1 = .nack 9) ∧
    ((atData 7 0 ((ackBytes 1).take 10)).fsm = Stage.data.fsm ∧ (atData 7 0 ((ackBytes 1).take 10)).rxFifo.length < 11 ∧
      98 + 1 < Stage.data.limit ∧ 11 ≤ ((ackBytes 1).take 10 ++ [0x00]).length ∧
      prefixOf ((ackBytes 1).take 10 ++ [0x00]) 1 = .ack ∧ prefixOf ((nackBytes 9).take 10 ++ [0x00]) 1 = .nack 9) ∧
    (before (List.replicate 98 .tick ++ .rxArrive [0x00] :: .tick :: []) (atData 7 0 ((ackBytes 1).take 10))).pending
      = List.replicate 98 .tick ++ .rxArrive [0x00] :: .tick :: [] ∧
    ((atEnd 7 []).fsm = Stage.final.fsm ∧ (atEnd 7 []).rxFifo.length < 11 ∧ 198 + 1 < Stage.final.limit ∧
      prefixOf ([] ++ ackBytes 2) 2 = .ack) ∧
    (before (List.replicate 198 .tick ++ .rxArrive (ackBytes 2) :: .tick :: []) (atEnd 7 [])).pending
      = List.replicate 198 .tick ++ .rxArrive (ackBytes 2) :: .tick :: [] :=
  ⟨by decide +kernel, by decide +kernel, rfl, by decide +kernel, rfl⟩
theorem witness_WaitWithoutTicksStaysRunning :
    (atData 7 0 []).fsm = Stage.data.fsm ∧ (atData 7 0 []).rxFifo.length < 11 ∧ 99 < Stage.data.limit ∧
    (before (List.replicate 99 .tick) (atData 7 0 [])).pending = List.replicate 99 .tick :=
  ⟨rfl, by decide +kernel, by decide, rfl⟩
theorem witness_AckOfStartSendsFirstFrame :
    (atStart 1 []).fsm = .awaitStartAck ∧ { atStart 1 [] with totalPackets := 0 }.totalPackets = 0 ∧
    (atStart 1 []).totalPackets ≠ 0 ∧ (atStart 1 []).totalPackets.toNat = packetsFor (atStart 1 []).payloadLen.toNat ∧
    (atStart 1 (zeros 10)).rxFifo.length < 11 := by decide +kernel
/-- P2's DATA frame in flight has the session invariant. -/
theorem atData_inv (n : BitVec 8) (r : BitVec 2) (b : List Byte) (h : n.toNat < 100) : SessionInv (atData n r b) where
  payloadWf := by show Memory.wf abc = true; decide
  packets := by show (1 : U16).toNat = packetsFor (3 : U24).toNat; decide
  start := nofun
  data := fun _ => by
    have hc : (atData n r b).chunkBytes 0 = [0x41, 0x42, 0x43] := by
      show (atData 0 0 []).chunkBytes 0 = _
      decide +kernel
    have hcov : coveredBytes cmdData 1 [0x41, 0x42, 0x43] = v15.take 248 := by decide +kernel
    have hv : v15.take 248 ++ bytesLE16 0x3B4E#16 = v15 := by decide +kernel
    have hlen : v15.length = 250 := by decide +kernel
    have hr : r.toNat ≤ 3 := by have := r.isLt; omega
    refine ⟨?_, rfl, rfl, rfl, ?_, ?_, hr, ?_, h⟩
    · show (0 : U16).toNat < (1 : U16).toNat; decide
    · show 1 ≤ (3 : Byte).toNat; decide
    · show (3 : Byte).toNat ≤ 240; decide
    show (frameBuffer v15).toList = encodeFrame cmdData 1 ((atData n r b).chunkBytes 0)
    rw [hc, encodeFrame, hcov, crc_v15, hv, frameBuffer_toList hlen]
  final := nofun
  done := nofun
  failed := nofun
  unfailed := fun _ => ⟨rfl, rfl, rfl⟩
theorem witness_AckOfDataCountsThenSendsNext :
    (atData 1 0 []).fsm = .awaitDataAck ∧ (atData 1 0 []).chunkIdx + 1 = (atData 1 0 []).totalPackets ∧
    { atData 1 0 [] with totalPackets := 2 }.chunkIdx + 1 ≠ 2 ∧ SessionInv (atData 1 0 []) ∧
    (atData 1 0 []).rxFifo.length < 11 := ⟨rfl, rfl, by decide, atData_inv 1 0 [] (by decide), by decide⟩
/-- An empty image's END frame (P7) in flight, at its last tick. -/
theorem witness_AckOfEndIsDone : ∃ s : State, s.fsm = .awaitEndAck ∧ SessionInv s := by
  have hb : ([] : List Byte).length ≤ 240 := by decide
  refine ⟨{ State.reset with
    fsm := .awaitEndAck, seq := 1, imageId := 7, tickCnt := 199, txf := frameBuffer (encodeFrame cmdEnd 1 []) }, rfl,
    rfl, rfl, nofun, nofun, fun _ => ⟨⟨rfl, rfl, rfl⟩, rfl, rfl, ?_, by decide⟩, nofun, nofun, fun _ => ⟨rfl, rfl, rfl⟩⟩
  exact frameBuffer_toList (encodeFrame_length _ _ hb)
theorem witness_FailedAttemptResendsTheSameFrame :
    (atData 99 2 []).fsm = .awaitDataAck ∧ (atData 99 2 []).retryCnt.toNat < 3 ∧ (atData 99 2 []).rxFifo.length < 11 := by
  decide +kernel
theorem witness_FailedAttemptWithoutBudgetFails :
    ((atStart 1 []).fsm = Stage.start.fsm ∧ Stage.start.budget ≤ (atStart 1 []).retryCnt.toNat) ∧
    ((atData 1 3 []).fsm = Stage.data.fsm ∧ Stage.data.budget ≤ (atData 1 3 []).retryCnt.toNat) ∧
    (atEnd 1 []).fsm = Stage.final.fsm ∧ Stage.final.budget ≤ (atEnd 1 []).retryCnt.toNat := by decide +kernel
theorem witness_FailRecordsStageIndexAndCause :
    (atStart 1 []).fsm = .awaitStartAck ∧ (atData 1 3 []).fsm = .awaitDataAck ∧ (atEnd 1 []).fsm = .awaitEndAck ∧
    exec (.fail .nack) (atEnd 1 []) = .next ((atEnd 1 []).enterFailed .final .nack) := ⟨rfl, rfl, rfl, rfl⟩
theorem witness_SequencerStepsNeedAnAwaitingState : State.reset.fsm.busy = false := rfl
/-- The first chunk of one byte, and the second of 241. -/
theorem witness_SendDataEmitsTheChunk :
    ((0 : U16).toNat < (atStart 1 []).totalPackets.toNat ∧ 240 * (0 : U16).toNat < (atStart 1 []).payloadLen.toNat ∧
      (atStart 1 (zeros 10)).rxFifo.length < 11) ∧
    (1 : U16).toNat < { State.reset with totalPackets := 2, payloadLen := 241 }.totalPackets.toNat ∧
    240 * (1 : U16).toNat < { State.reset with totalPackets := 2, payloadLen := 241 }.payloadLen.toNat := by decide +kernel
theorem witness_SendDataOutsideTheSessionStops :
    (atStart 1 []).totalPackets.toNat ≤ (1 : U16).toNat ∧
    (1 : U16).toNat < { State.reset with totalPackets := 2, payloadLen := 240 }.totalPackets.toNat ∧
    { State.reset with totalPackets := 2, payloadLen := 240 }.payloadLen.toNat ≤ 240 * (1 : U16).toNat := by decide +kernel
theorem witness_SendEndEmitsTheEmptyFrame : (atData 1 0 (zeros 10)).rxFifo.length < 11 := by decide +kernel
theorem witness_SendImageStartsASession :
    State.reset.fsm.busy = false ∧ 15728400 ≤ 15728400 ∧ 15728399 < 15728400 ∧
    State.reset.rxFifo.length < 11 := by decide +kernel
theorem witness_SendImageTurnedAwayChangesNothing :
    (atData 1 0 []).fsm.busy = true ∧ State.reset.fsm.busy = false ∧ 15728400 < 15728401 := by decide +kernel
/-- The empty session, and the longest. -/
theorem witness_StaleAckConfirmsStartAtOnce :
    { State.reset with rxFifo := ackBytes 0 }.fsm.busy = false ∧ 0 ≤ 15728400 ∧ 15728400 ≤ 15728400 ∧ 0 < 15728400 ∧
    11 ≤ (ackBytes 0).length ∧ prefixOf (ackBytes 0) 0 = .ack := by decide +kernel
/-- Each row at the ends of its lengths, and beyond them. -/
theorem witness_SentFramesGoOutAndAwait :
    (zeros 240).length = 240 ∧ State.reset.rxFifo.length < 11 ∧
    (Stage.start, 1#8, 4, 4, Instr.startFrame .toPeer 0 4 (zeros 240) 0) ∈
      [(Stage.start, 1#8, 4, 4, Instr.startFrame .toPeer 0 4 (zeros 240) 0),
        (Stage.data, 2#8, 1, 240, Instr.dataFrame .toPeer 0 4 (zeros 240) 0),
        (Stage.final, 3#8, 0, 0, Instr.endFrame .toPeer 0 4 (zeros 240) 0)] ∧
    (4 ≤ (4#8).toNat ∧ (4#8).toNat ≤ 4) ∧ ¬ (4 ≤ (3#8).toNat ∧ (3#8).toNat ≤ 4) ∧
    (1 ≤ (1#8).toNat ∧ (240#8).toNat ≤ 240) ∧ ¬ (1 ≤ (0#8).toNat ∧ (0#8).toNat ≤ 240) ∧
    ¬ (1 ≤ (241#8).toNat ∧ (241#8).toNat ≤ 240) ∧ (0#8).toNat ≤ 0 ∧ ¬ (0 ≤ (1#8).toNat ∧ (1#8).toNat ≤ 0) := by
  decide +kernel
theorem witness_ReceivedStartDataEndAreOtherContent :
    (zeros 240).length = 240 ∧ (atData 98 0 []).fsm = Stage.data.fsm ∧
    (atData 98 0 []).tickCnt.toNat + 1 ≠ Stage.data.limit ∧ (atData 98 0 []).rxFifo = [] ∧
    State.reset.fsm.busy = false := by decide +kernel
theorem witness_AckFrameConfirmsItsSequenceOnly :
    (zeros 240).length = 240 ∧ (atEnd 198 []).fsm = Stage.final.fsm ∧
    (atEnd 198 []).tickCnt.toNat + 1 ≠ Stage.final.limit ∧ (atEnd 198 []).rxFifo = [] ∧ 2 = (atEnd 198 []).seq ∧
    9 ≠ (atEnd 198 []).seq := by decide +kernel
theorem witness_NackFrameSpendsARetry :
    (zeros 240).length = 240 ∧
    ((atData 98 2 []).rxFifo = [] ∧ (atData 98 2 []).fsm = .awaitDataAck ∧ (atData 98 2 []).tickCnt.toNat + 1 ≠ 100 ∧
      (atData 98 2 []).retryCnt.toNat < 3) ∧
    (atData 98 3 []).retryCnt = 3 ∧
    ((atStart 198 []).rxFifo = [] ∧ (atStart 198 []).fsm = Stage.start.fsm ∧ Stage.start ≠ .data ∧
      (atStart 198 []).tickCnt.toNat + 1 ≠ 200) := by decide +kernel
/-- A state with the invariant, and a step from it that is not idle. -/
theorem witness_EveryStepKeepsTheSessionInvariant :
    SessionInv (before [.rxArrive [0x5A]] (atData 98 3 [])) ∧
    step (before [.rxArrive [0x5A]] (atData 98 3 [])) = .next (atData 98 3 [0x5A]) := by
  have h := atData_inv 98 3 [] (by decide)
  exact ⟨⟨h.payloadWf, h.packets, h.start, h.data, h.final, h.done, h.failed, h.unfailed⟩, rfl⟩
theorem witness_StepsCompleteUnderTheInvariant :
    SessionInv (before [.tick] (atData 99 3 [])) ∧ ∀ e ∈ (before [.tick] (atData 99 3 [])).pending.head?, EventOk e := by
  have h := atData_inv 99 3 [] (by decide)
  refine ⟨⟨h.payloadWf, h.packets, h.start, h.data, h.final, h.done, h.failed, h.unfailed⟩, fun e he => ?_⟩
  cases he
  trivial
/-- A tick below the limit is a step that counts. -/
theorem step_of_tick : step (before [.tick] (atData 98 3 [])) = .next (atData 99 3 []) :=
  (tick_below (s := atData 98 3 []) (st := .data) rfl (by decide)).trans (poll_quiet (by decide))
theorem witness_OneStepEmitsAtMostTwoFrames :
    step (before [.tick] (atData 98 3 [])) = .next (atData 99 3 []) := step_of_tick
theorem witness_PayloadIsReadOnlyToTheBlock :
    step (before [.tick] (atData 98 3 [])) = .next (atData 99 3 []) ∧
    ∀ r rest, (before [.tick] (atData 98 3 [])).pending = .hostReq r :: rest → r.op = 3#2 →
      (before [.tick] (atData 98 3 [])).fsm.busy = true ∨ 15728400 < r.payloadLen := ⟨step_of_tick, fun _ _ h => (by cases h)⟩
theorem witness_RestingStatesAreLeftOnlyByANewSession :
    step (before [.reset] { atEnd 1 [] with fsm := .done }) = .next { State.reset with payload := abc } ∧
    { atEnd 1 [] with fsm := .done }.fsm.busy = false ∧
    { State.reset with payload := abc }.fsm ≠ { atEnd 1 [] with fsm := .done }.fsm := ⟨rfl, rfl, by decide⟩
theorem witness_AwaitingStatesOnlyGoForward :
    step (before [.tick] (atData 98 3 [])) = .next (atData 99 3 []) ∧
    (∀ rest, (before [.tick] (atData 98 3 [])).pending ≠ .reset :: rest) ∧ (atData 98 3 []).fsm = .awaitDataAck ∧
    (atStart 1 []).fsm = .awaitStartAck ∧ (atEnd 1 []).fsm = .awaitEndAck :=
  ⟨step_of_tick, fun _ h => (by cases h), rfl, rfl, rfl⟩
theorem witness_OnlyTicksEndAWait :
    step (before [.rxArrive [0x5A]] (atData 98 3 [])) = .next (atData 98 3 [0x5A]) ∧
    (before [.rxArrive [0x5A]] (atData 98 3 [])).fsm.busy = true ∧
    (∀ rest, (before [.rxArrive [0x5A]] (atData 98 3 [])).pending ≠ .tick :: rest) ∧
    (∀ b rest, (before [.rxArrive [0x5A]] (atData 98 3 [])).pending ≠ .frameAtTick b :: rest) ∧
    (∀ rest, (before [.rxArrive [0x5A]] (atData 98 3 [])).pending ≠ .reset :: rest) :=
  ⟨rfl, rfl, fun _ h => (by cases h), fun _ _ h => (by cases h), fun _ h => (by cases h)⟩
theorem witness_SequenceAdvancesByOneWithTheFrame :
    step (before [.tick] (atData 98 3 [])) = .next (atData 99 3 []) ∧
    (∀ rest, (before [.tick] (atData 98 3 [])).pending ≠ .reset :: rest) ∧
    ∀ r rest, (before [.tick] (atData 98 3 [])).pending = .hostReq r :: rest → r.op = 3#2 →
      (before [.tick] (atData 98 3 [])).fsm.busy = true ∨ 15728400 < r.payloadLen :=
  ⟨step_of_tick, fun _ h => (by cases h), fun _ _ h => (by cases h)⟩
theorem witness_SilentPeerFailsStartAtTick200 :
    (atStart 0 (zeros 10)).fsm = .awaitStartAck ∧ (atStart 0 (zeros 10)).tickCnt = 0 ∧
    (atStart 0 (zeros 10)).rxFifo.length < 11 ∧
    (before (List.replicate 200 .tick ++ [.tick]) (atStart 0 (zeros 10))).pending = List.replicate 200 .tick ++ [.tick] :=
  ⟨rfl, rfl, by decide +kernel, rfl⟩
theorem witness_UnansweredDataFailsAtTick400 :
    (atData 0 0 []).fsm = .awaitDataAck ∧ (atData 0 0 []).tickCnt = 0 ∧ (atData 0 0 []).retryCnt = 0 ∧
    (atData 0 0 []).rxFifo.length < 11 ∧
    (before (List.replicate 400 .tick) (atData 0 0 [])).pending = List.replicate 400 .tick ++ [] ∧ 3 ≤ 3 ∧ 99 < 100 :=
  ⟨rfl, rfl, rfl, by decide, (List.append_nil _).symm, by decide, by decide⟩

end Sys2Proof.Tests
end

section
/-! The step, event by event (O18): which operation an event presents, and what bytes that are no frame of the table do. -/

namespace Sys2Proof.Machine

/-! The step on each kind of event -/

section
variable {s : State} {rest : List Event}

/-- R9: a host request is decoded by its selector and executed. -/
theorem step_hostReq {r : HostRequest} (h : s.pending = .hostReq r :: rest) :
    step s = exec (decodeRequest r) (s.taken rest) := by rw [step, h]; rfl

/-- R9: a tick is the operation TICK. -/
theorem step_tick (h : s.pending = .tick :: rest) : step s = exec .tick (s.taken rest) := by rw [step, h]; rfl

/-- R83: a frame of the table is the operation its bytes decode to. -/
theorem step_frame {b : List Byte} {i : Instr} (h : s.pending = .frameAtTick b :: rest)
    (hd : decode (.frame .toBlock b) = .ok i) : step s = exec i (s.taken rest) := by
  have hf : fetchEvent (.frameAtTick b) = .instr i := by rw [fetchEvent, hd]
  rw [step, h]; simp only [hf]

/-- R84: bytes that are no frame of the table arrive, and the tick follows. -/
theorem step_unframed {b : List Byte} {why : DecodeError} (h : s.pending = .frameAtTick b :: rest)
    (hd : decode (.frame .toBlock b) = .error why) : step s = tick ((s.taken rest).rxArrive b) := by
  have hf : fetchEvent (.frameAtTick b) = .unframed b := by rw [fetchEvent, hd]
  rw [step, h]; simp only [hf]; rfl

end

/-! Bytes of a frame's size that are no frame of the table are no reply -/

/-- A command byte that names no frame received by the block is neither ACK's nor NACK's (R74, R84). -/
theorem frameInstr_error_no_reply {c l : Byte} {q r : U16} {p : List Byte} {why : DecodeError}
    (h : frameInstr .toBlock c q l p r = .error why) : c ≠ cmdAck ∧ c ≠ cmdNack := by
  refine ⟨?_, ?_⟩ <;> rintro rfl <;> cases h

/-- What the decoder rejects in 250 bytes is the header or the command (R82, R83); either makes the reply other content
(R84, R142), whatever sequence is awaited. -/
theorem prefixOf_of_decode_error {b : List Byte} {why : DecodeError} (hl : b.length = 250)
    (hd : decode (.frame .toBlock b) = .error why) (expected : U16) : prefixOf b expected = .other := by
  rw [decode, decodeFrameBytes, if_pos hl] at hd
  by_cases hm : headerOf b = Config.magic
  · rw [if_pos hm] at hd
    obtain ⟨hack, hnack⟩ := frameInstr_error_no_reply hd
    simp [prefixOf, hack, hnack]
  · simp [prefixOf, hm]

/-- A poll that reads other content consumes every byte and goes on waiting (R143). -/
theorem poll_other {s : State} (h : 11 ≤ s.rxFifo.length) (hp : prefixOf s.rxFifo s.seq = .other) :
    poll s = .next (s.rxDrop s.rxFifo.length) := poll_read h hp

/-- On an empty FIFO, below the stage's limit, other content that arrives with the tick leaves only the tick counted:
its bytes are consumed by the tick's poll (R84, R143, R146). -/
theorem tick_rxArrive_other {s : State} {st : Stage} {b : List Byte} (hf : s.fsm = st.fsm)
    (hlim : s.tickCnt.toNat + 1 ≠ st.limit) (hrx : s.rxFifo = []) (hb : 11 ≤ b.length)
    (hp : prefixOf b s.seq = .other) : tick (s.rxArrive b) = .next s.countTick := by
  have hfifo : (s.rxArrive b).countTick.rxFifo = b := by simp [hrx]
  have hdrop : (s.rxArrive b).countTick.rxDrop b.length = s.countTick := by
    apply State.ext <;> simp [hrx]
  calc tick (s.rxArrive b)
      = poll (s.rxArrive b).countTick := tick_below (st := st) (by simpa using hf) (by simpa using hlim)
    _ = .next ((s.rxArrive b).countTick.rxDrop b.length) := by
        rw [poll_other (by rwa [hfifo]) (by rw [hfifo]; exact hp), hfifo]
    _ = .next s.countTick := by rw [hdrop]

/-- Settles O18: one rule per kind of event; bytes of a frame's size that the decoder rejects are no reply, so the poll of
their tick only consumes them. -/
theorem stepRunsTheDecodedOperation : Obligations.StepRunsTheDecodedOperation := by
  intro s rest
  refine ⟨fun _ h => step_hostReq h, step_tick, fun _ _ h hd => step_frame h hd,
    fun b why h hd => ⟨step_unframed h hd, fun st hlen hfsm hlim hrx => ?_⟩⟩
  have hother : prefixOf b s.seq = .other := prefixOf_of_decode_error hlen hd s.seq
  calc step s = tick ((s.taken rest).rxArrive b) := step_unframed h hd
    _ = .next (s.taken rest).countTick := tick_rxArrive_other (st := st) hfsm hlim hrx (by omega) hother

end Sys2Proof.Machine
end

section
/-! What a step can do, operation by operation (R9, R140): the event it presents, with the operations that leave the session
alone taken together. The invariants of the state are proved from these cases. -/

namespace Sys2Proof.Machine

/-- R83: a host request is SEND_IMAGE for selector 3, and an operation of the codec or the CRC unit for each other. -/
theorem decodeRequest_sendImage {r : HostRequest} (h : r.op = 3#2) :
    decodeRequest r = .sendImage r.imageId r.payloadLen r.payload := by
  simp [decodeRequest, h]

theorem decodeRequest_codec {r : HostRequest} (h : r.op ≠ 3#2) :
    decodeRequest r = .crc16 r.bytes ∨ decodeRequest r = .encode r.command r.sequence r.bytes ∨
      decodeRequest r = .decode r.bytes := by
  rw [decodeRequest]
  split_ifs with h0 h1 h2
  · exact .inl rfl
  · exact .inr (.inl rfl)
  · exact .inr (.inr rfl)
  · exact absurd (by bv_omega : r.op = 3#2) h

section
variable {s t : State}

/-- What an ENCODE request can do (R121). -/
theorem execEncode_next {c : Byte} {q : U16} {body : List Byte} (h : execEncode c q body s = .next t) :
    ∃ a, t = s.returning a := by
  rw [execEncode] at h
  split_ifs at h <;> cases h <;> exact ⟨_, rfl⟩

/-- What a DECODE request can do (R125). -/
theorem execDecode_next {w : List Byte} (h : execDecode w s = .next t) : ∃ a, t = s.returning a := by
  rw [execDecode] at h
  split at h <;> cases h <;> exact ⟨_, rfl⟩

/-- A codec request hands back a value and does nothing else (R35). -/
theorem exec_codecRequest_next {r : HostRequest} (hr : r.op ≠ 3#2) (h : exec (decodeRequest r) s = .next t) :
    ∃ a, t = s.returning a := by
  rcases decodeRequest_codec hr with hd | hd | hd <;> rw [hd] at h
  · cases h; exact ⟨_, rfl⟩
  · exact execEncode_next h
  · exact execDecode_next h

/-- What SEND_IMAGE can do (R170, R171): turned away, it hands back an error; accepted, it sends the START frame. -/
theorem execSendImage_next {id : U16} {n : Nat} {cells : List Host.Cell} (h : execSendImage id n cells s = .next t) :
    ((s.fsm.busy = true ∨ 15728400 < n) ∧ ∃ a, t = s.returning a) ∨
      (s.fsm.busy = false ∧ n ≤ 15728400 ∧
        sendFrame .start 0
          (startBody (s.beginSession id n cells).imageId (s.beginSession id n cells).totalPackets)
          ((s.beginSession id n cells).returning .accepted) = .next t) := by
  rw [execSendImage] at h
  split_ifs at h with hb hn
  · cases h; exact .inl ⟨.inl hb, _, rfl⟩
  · cases h; exact .inl ⟨.inr hn, _, rfl⟩
  · exact .inr ⟨by simpa using hb, Nat.le_of_not_lt hn, h⟩

/-- What a step can do, by its event (R9, R57, R83, R230): a frame, of the table or not, is an arrival and a tick. -/
theorem step_cases (h : step s = .next t) :
    (s.pending = [] ∧ t = s) ∨
      ∃ e rest, s.pending = e :: rest ∧
        ((∃ r a, e = .hostReq r ∧ r.op ≠ 3#2 ∧ t = (s.taken rest).returning a) ∨
          (∃ r, e = .hostReq r ∧ r.op = 3#2 ∧
            execSendImage r.imageId r.payloadLen r.payload (s.taken rest) = .next t) ∨
          (e = .tick ∧ tick (s.taken rest) = .next t) ∨
          (∃ b c, e = .frameAtTick b ∧ tick ((s.taken rest).rxArrive c) = .next t) ∨
          (∃ b, e = .rxArrive b ∧ t = (s.taken rest).rxArrive b) ∨
          (e = .reset ∧ t = (s.taken rest).hardReset)) := by
  rcases step_next h with hidle | ⟨e, rest, hp, ⟨i, hi, hx⟩ | ⟨b, he, hx⟩ | harrive | hreset⟩
  · exact .inl hidle
  · refine .inr ⟨e, rest, hp, ?_⟩
    rcases fetchEvent_instr hi with ⟨r, he, rfl⟩ | ⟨he, rfl⟩ | ⟨b, he, hd⟩
    · by_cases hop : r.op = 3#2
      · rw [decodeRequest_sendImage hop] at hx
        exact .inr (.inl ⟨r, he, hop, hx⟩)
      · obtain ⟨a, ha⟩ := exec_codecRequest_next hop hx
        exact .inl ⟨r, a, he, hop, ha⟩
    · exact .inr (.inr (.inl ⟨he, hx⟩))
    · obtain ⟨c, hc⟩ := exec_received hd (s.taken rest)
      exact .inr (.inr (.inr (.inl ⟨b, c, he, hc.symm.trans hx⟩)))
  · exact .inr ⟨e, rest, hp, .inr (.inr (.inr (.inl ⟨b, b, he, hx⟩)))⟩
  · exact .inr ⟨e, rest, hp, .inr (.inr (.inr (.inr (.inl harrive))))⟩
  · exact .inr ⟨e, rest, hp, .inr (.inr (.inr (.inr (.inr hreset))))⟩

end

/-- Settles O14: a codec request only hands back a value. -/
theorem codecRequestsLeaveTheSession : Obligations.CodecRequestsLeaveTheSession := by
  intro r s t hr h
  obtain ⟨a, rfl⟩ := exec_codecRequest_next hr h
  rfl

end Sys2Proof.Machine
end

section
/-! The session invariant (O20, O50, O51): it holds in the reset state, and every step keeps it. Each step of the sequencer
is shown to keep it if the poll it ends with does. Between the confirmation of one frame and the next, where no clause on a
frame in flight applies, the counters agree as `BetweenFrames` says. -/

namespace Sys2Proof.Machine

/-! The reset state -/

/-- Settles O20: each register of the reset state, read off. -/
theorem resetValues : Obligations.ResetValues :=
  ⟨State.reset_fsm, State.reset_chunkIdx, State.reset_seq, State.reset_imageId, State.reset_payloadLen,
    State.reset_totalPackets, State.reset_curLen, State.reset_sentBytes, State.reset_retryCnt, State.reset_tickCnt,
    State.reset_lastOutcome, State.reset_failStage, State.reset_failIndex, State.reset_failCause⟩

/-- With the registers at reset the session invariant is about PAYLOAD alone: IDLE has no frame in flight, an empty payload
has no packets, and the failure record is empty. -/
theorem sessionInv_hardReset {s : State} (h : Memory.wf s.payload = true) : SessionInv s.hardReset where
  payloadWf := h
  packets := by
    show (0 : U16).toNat = packetsFor (0 : U24).toNat
    decide
  start := nofun
  data := nofun
  final := nofun
  done := nofun
  failed := nofun
  unfailed := fun _ => ⟨rfl, rfl, rfl⟩

/-- Settles O51: the reset state is what a hardware reset of it leaves. -/
theorem resetHasTheSessionInvariant : Obligations.ResetHasTheSessionInvariant :=
  sessionInv_hardReset (s := State.reset) Memory.wf_reset

/-! Updates under the invariant -/

section
variable {s t : State} {st : Stage}

/-- The invariant reads neither last_outcome, crc, the link, the value returned nor the events to come. -/
theorem SessionInv.of_unread (h : SessionInv s) {lo : Option WaitOutcome} {c : U16} {rx : List Byte} {os : List Output}
    {a : Returned} {ps : List Event} :
    SessionInv { s with lastOutcome := lo, crc := c, rxFifo := rx, outputs := os, answer := a, pending := ps } :=
  ⟨h.payloadWf, h.packets, h.start, h.data, h.final, h.done, h.failed, h.unfailed⟩

/-- The clock of a running wait is below the stage's limit (R39 items 1 to 3). -/
theorem SessionInv.tickCnt_lt (h : SessionInv s) (hf : s.fsm = st.fsm) : s.tickCnt.toNat < st.limit := by
  cases st with
  | start => obtain ⟨-, -, -, -, -, -, ht⟩ := h.start hf; exact ht
  | data => obtain ⟨-, -, -, -, -, -, -, -, ht⟩ := h.data hf; exact ht
  | final => obtain ⟨-, -, -, -, ht⟩ := h.final hf; exact ht

/-- Every stage waits for at least one tick (R141). -/
theorem zero_lt_limit (st : Stage) : (0 : BitVec 8).toNat < st.limit := by cases st <;> decide

/-- The clock may stand anywhere below the limit of the wait that is running. -/
theorem SessionInv.setTick (h : SessionInv s) {n : BitVec 8} (hn : ∀ st : Stage, s.fsm = st.fsm → n.toNat < st.limit) :
    SessionInv { s with tickCnt := n } where
  payloadWf := h.payloadWf
  packets := h.packets
  start hf := by
    obtain ⟨hq, hi, hb, hr, hl, hx, -⟩ := h.start hf
    exact ⟨hq, hi, hb, hr, hl, hx, hn .start hf⟩
  data hf := by
    obtain ⟨hi, hq, hb, hl, hl1, hl2, hr, hx, -⟩ := h.data hf
    exact ⟨hi, hq, hb, hl, hl1, hl2, hr, hx, hn .data hf⟩
  final hf := by
    obtain ⟨hc, hr, hl, hx, -⟩ := h.final hf
    exact ⟨hc, hr, hl, hx, hn .final hf⟩
  done := h.done
  failed := h.failed
  unfailed := h.unfailed

/-- An emission puts the clock at zero (R144). -/
theorem SessionInv.emitted (h : SessionInv s) : SessionInv s.txWrite.startWait :=
  (h.of_unread : SessionInv s.txWrite).setTick fun st _ => zero_lt_limit st

/-- A tick that is not the limit's counts (R146). -/
theorem SessionInv.countTick (h : SessionInv s) (hf : s.fsm = st.fsm) (hl : s.tickCnt.toNat + 1 ≠ st.limit) :
    SessionInv s.countTick := by
  refine h.setTick fun st' hf' => ?_
  have hst : st' = st := Option.some.inj (by rw [← Stage.stage?_fsm, ← hf', hf, Stage.stage?_fsm])
  have hlt := h.tickCnt_lt hf
  have hadd : (s.tickCnt + 1).toNat ≤ s.tickCnt.toNat + 1 := by rw [BitVec.toNat_add]; exact Nat.mod_le _ _
  rw [hst]
  omega

/-- A resend within the budget counts; only DATA has a budget (R141, R148). -/
theorem SessionInv.countRetry (h : SessionInv s) (hf : s.fsm = st.fsm) (hr : s.retryCnt.toNat < st.budget) :
    SessionInv s.countRetry := by
  cases st with
  | start => simp at hr
  | final => simp at hr
  | data =>
    have hcount : s.countRetry.retryCnt.toNat ≤ 3 := by have := s.countRetry.retryCnt.isLt; omega
    refine ⟨h.payloadWf, h.packets, ?_, fun _ => ?_, ?_, ?_, ?_, h.unfailed⟩
    · exact fun hs => absurd (hf.symm.trans hs) nofun
    · obtain ⟨hi, hq, hb, hl, hl1, hl2, -, hx, ht⟩ := h.data hf
      exact ⟨hi, hq, hb, hl, hl1, hl2, hcount, hx, ht⟩
    all_goals exact fun hs => absurd (hf.symm.trans hs) nofun

/-- The failure entry records the stage, with the sequence of a DATA frame, and the cause (R149, R39 item 5). -/
theorem SessionInv.enterFailed (h : SessionInv s) (hf : s.fsm = st.fsm) (cause : FailCause) :
    SessionInv (s.enterFailed st cause) where
  payloadWf := h.payloadWf
  packets := h.packets
  start := nofun
  data := nofun
  final := nofun
  done := nofun
  failed _ := by
    refine ⟨nofun, nofun, fun hst => ?_, fun hst => if_neg fun hd => hst (congrArg some hd)⟩
    have hd : st = .data := Option.some.inj hst
    subst hd
    obtain ⟨-, hq, -⟩ := h.data hf
    have hseq : s.seq = s.chunkIdx + 1 := by bv_omega
    exact ⟨rfl, hseq⟩
  unfailed hne := absurd rfl hne

/-- The acknowledged END frame ends the session with every count at its end (R176, R39 item 4). -/
theorem SessionInv.setDone (h : SessionInv s) (hf : s.fsm = .awaitEndAck) : SessionInv (s.setFsm .done) where
  payloadWf := h.payloadWf
  packets := h.packets
  start := nofun
  data := nofun
  final := nofun
  done _ := by
    obtain ⟨hc, -⟩ := h.final hf
    exact hc
  failed := nofun
  unfailed _ := h.unfailed (by rw [hf]; nofun)

/-! Between two frames -/

/-- The counters when `chunkIdx` chunks are confirmed and no frame is in flight: what START, DATA and END frames are built
from (R171, R173, R175). -/
structure BetweenFrames (s : State) : Prop where
  payloadWf : Memory.wf s.payload = true
  packets : s.totalPackets.toNat = packetsFor s.payloadLen.toNat
  seq : s.seq = s.chunkIdx
  chunks : s.chunkIdx.toNat ≤ s.totalPackets.toNat
  bytes : s.sentBytes.toNat = min s.payloadLen.toNat (240 * s.chunkIdx.toNat)
  unfailed : s.failStage = none ∧ s.failIndex = 0 ∧ s.failCause = none

/-- The registers of an accepted SEND_IMAGE (R171): no chunk is confirmed. -/
theorem BetweenFrames.beginSession (id : U16) {n : Nat} (hn : n ≤ 15728400) (cells : List Host.Cell) :
    BetweenFrames (s.beginSession id n cells) where
  payloadWf := Memory.wf_ofCells n cells
  packets := by
    have hlen : (BitVec.ofNat 24 n).toNat = n := by rw [BitVec.toNat_ofNat]; omega
    have hcount : packetsFor n < 2 ^ 16 := by simp only [packetsFor, Config.chunk]; omega
    simp only [State.beginSession_totalPackets, State.beginSession_payloadLen, hlen, BitVec.toNat_ofNat]
    exact Nat.mod_eq_of_lt hcount
  seq := rfl
  chunks := Nat.zero_le _
  bytes := by simp
  unfailed := ⟨rfl, rfl, rfl⟩

/-- The acknowledged START frame confirms no chunk (R172). -/
theorem SessionInv.startAcked (h : SessionInv s) (hf : s.fsm = .awaitStartAck) :
    BetweenFrames s ∧ s.chunkIdx = 0 := by
  obtain ⟨hq, hi, hb, -⟩ := h.start hf
  refine ⟨⟨h.payloadWf, h.packets, hq.trans hi.symm, ?_, ?_, h.unfailed (by rw [hf]; nofun)⟩, hi⟩
  · simp [hi]
  · simp [hi, hb]

/-- The acknowledged DATA frame confirms its chunk and the chunk's bytes (R174). -/
theorem SessionInv.dataAcked (h : SessionInv s) (hf : s.fsm = .awaitDataAck) : BetweenFrames s.confirmChunk := by
  obtain ⟨hi, hq, hb, hl, -⟩ := h.data hf
  have hlen := s.payloadLen.isLt
  have hcount := s.totalPackets.isLt
  have hidx : (s.chunkIdx + 1).toNat = s.chunkIdx.toNat + 1 := by bv_omega
  refine ⟨h.payloadWf, h.packets, ?_, ?_, ?_, h.unfailed (by rw [hf]; nofun)⟩
  · show s.seq = s.chunkIdx + 1
    bv_omega
  · rw [State.confirmChunk_chunkIdx, hidx]
    exact hi
  · have hsum : (s.sentBytes + s.curLen.setWidth 24).toNat = s.sentBytes.toNat + s.curLen.toNat := by
      rw [BitVec.toNat_add, BitVec.toNat_setWidth]
      omega
    have hpos : 240 * s.chunkIdx.toNat < s.payloadLen.toNat := by
      have hp := h.packets
      simp only [packetsFor, Config.chunk] at hp
      omega
    simp only [State.confirmChunk_sentBytes, State.confirmChunk_payloadLen, State.confirmChunk_chunkIdx, hsum, hidx]
    omega

/-- The START frame goes out with no chunk confirmed (R171, R39 item 1). -/
theorem BetweenFrames.sendStart (h : BetweenFrames s) (h0 : s.chunkIdx = 0) :
    SessionInv (s.launch .start 0 (startBody s.imageId s.totalPackets)).txWrite.startWait where
  payloadWf := h.payloadWf
  packets := h.packets
  start _ := by
    have hbytes : s.sentBytes = 0 := by
      have hb := h.bytes
      simp only [h0] at hb
      bv_omega
    exact ⟨rfl, h0, hbytes, rfl, rfl, State.launch_frame s .start 0 (by simp), zero_lt_limit _⟩
  data := nofun
  final := nofun
  done := nofun
  failed := nofun
  unfailed _ := h.unfailed

/-- The DATA frame of the next chunk goes out (R173, R39 item 2). -/
theorem BetweenFrames.sendData (h : BetweenFrames s) (hk : s.chunkIdx.toNat < s.totalPackets.toNat) :
    SessionInv (s.launch .data (s.seq + 1) (s.chunkBytes s.chunkIdx.toNat)).txWrite.startWait where
  payloadWf := h.payloadWf
  packets := h.packets
  start := nofun
  data _ := by
    have hpos : 240 * s.chunkIdx.toNat < s.payloadLen.toNat := by
      have hp := h.packets
      simp only [packetsFor, Config.chunk] at hp
      omega
    have hlen := State.chunkBytes_length s s.chunkIdx.toNat
    have hcur : (lengthByte (s.chunkBytes s.chunkIdx.toNat)).toNat
        = min 240 (s.payloadLen.toNat - 240 * s.chunkIdx.toNat) := by
      rw [lengthByte, BitVec.toNat_ofNat, hlen]
      omega
    have hseq : (s.seq + 1).toNat = s.chunkIdx.toNat + 1 := by
      have hcount := s.totalPackets.isLt
      rw [h.seq]
      bv_omega
    have hframe := State.launch_frame s .data (s.seq + 1) (body := s.chunkBytes s.chunkIdx.toNat) (by omega)
    refine ⟨hk, hseq, ?_, hcur, ?_, ?_, Nat.zero_le _, hframe, zero_lt_limit _⟩
    · show s.sentBytes.toNat = _
      rw [h.bytes]
      exact min_eq_right hpos.le
    all_goals
      simp only [State.startWait_curLen, State.txWrite_curLen, State.launch_curLen, hcur]
      omega
  final := nofun
  done := nofun
  failed := nofun
  unfailed _ := h.unfailed

/-- The END frame goes out when every chunk is confirmed (R175, R39 item 3). -/
theorem BetweenFrames.sendEnd (h : BetweenFrames s) (hall : s.chunkIdx = s.totalPackets) :
    SessionInv (s.launch .final (s.seq + 1) []).txWrite.startWait where
  payloadWf := h.payloadWf
  packets := h.packets
  start := nofun
  data := nofun
  final _ := by
    have hbytes : s.sentBytes = s.payloadLen := by
      have hp := h.packets
      have hb := h.bytes
      simp only [packetsFor, Config.chunk] at hp
      rw [hall] at hb
      exact BitVec.eq_of_toNat_eq (by omega)
    have hseq : s.seq + 1 = s.totalPackets + 1 := by rw [h.seq, hall]
    exact ⟨⟨hall, hseq, hbytes⟩, rfl, rfl, State.launch_frame s .final (s.seq + 1) (by simp), zero_lt_limit _⟩
  done := nofun
  failed := nofun
  unfailed _ := h.unfailed

end

/-! The sequencer's steps keep the invariant -/

/-- A step of the sequencer keeps the session invariant. -/
def KeepsSession (op : State → Result) : Prop := ∀ ⦃s t : State⦄, SessionInv s → op s = .next t → SessionInv t

theorem keepsSession_next : KeepsSession .next := fun _ _ h ht => by
  cases ht
  exact h

section
variable {p : State → Result} {s t : State}

theorem KeepsSession.sendData (hp : KeepsSession p) (h : BetweenFrames s) {k : U16} (hk : k = s.chunkIdx)
    (ht : sendDataWith p k s = .next t) : SessionInv t := by
  subst hk
  obtain ⟨hlt, -, hsend⟩ := sendDataWith_next ht
  exact hp (h.sendData hlt) hsend

theorem KeepsSession.sendEnd (hp : KeepsSession p) (h : BetweenFrames s) (hall : s.chunkIdx = s.totalPackets)
    (ht : sendEndWith p s = .next t) : SessionInv t :=
  hp (h.sendEnd hall) ht

/-- ON_ACK (R147): the frame in flight is confirmed, and the next one is in flight or the session is done. -/
theorem KeepsSession.onAck (hp : KeepsSession p) : KeepsSession (onAckWith p) := by
  intro s t h ht
  rcases onAckWith_next ht with ⟨hf, h0, hs⟩ | ⟨hf, -, hs⟩ | ⟨hf, hlast, hs⟩ | ⟨hf, -, hs⟩ | ⟨hf, rfl⟩
  · obtain ⟨hb, hi⟩ := h.startAcked hf
    exact hp.sendEnd hb (hi.trans h0.symm) hs
  · obtain ⟨hb, hi⟩ := h.startAcked hf
    exact hp.sendData hb hi.symm hs
  · exact hp.sendEnd (h.dataAcked hf) hlast hs
  · exact hp.sendData (h.dataAcked hf) rfl hs
  · exact h.setDone hf

/-- ATTEMPT_FAILED (R148): the same frame again, or the failure entry. -/
theorem KeepsSession.attemptFailed (hp : KeepsSession p) (cause : FailCause) :
    KeepsSession (attemptFailedWith p cause) := by
  intro s t h ht
  obtain ⟨st, hf, ⟨hr, hs⟩ | ⟨-, rfl⟩⟩ := attemptFailedWith_next ht
  · exact hp (h.countRetry hf hr).emitted hs
  · exact h.enterFailed hf cause

/-- The reaction to a reply (R143). -/
theorem KeepsSession.react (hp : KeepsSession p) (r : PrefixResult) : KeepsSession (reactWith p r) := by
  intro s t h ht
  rcases reactWith_next ht with ⟨-, hs⟩ | ⟨got, -, hs⟩ | ⟨-, rfl⟩
  · exact hp.onAck h.of_unread hs
  · exact hp.attemptFailed _ h.of_unread hs
  · exact h

end

/-- POLL (R143): what it reads is no part of the session; its reaction keeps the invariant. -/
theorem keepsSession_poll : KeepsSession poll := by
  intro s t h ht
  rcases poll_next ht with ⟨-, rfl⟩ | ⟨-, hs⟩
  · exact h
  · exact keepsSession_next.react _ h.of_unread hs

/-- TICK (R146). -/
theorem keepsSession_tick : KeepsSession tick := by
  intro s t h ht
  obtain ⟨-, rfl⟩ | ⟨st, hf, ⟨-, hs⟩ | ⟨hl, hs⟩⟩ := tick_next ht
  · exact h
  · exact keepsSession_poll.attemptFailed _ h.of_unread hs
  · exact keepsSession_poll (h.countTick hf hl) hs

/-- SEND_IMAGE (R170, R171): turned away, it changes nothing of the session; accepted, the START frame is in flight. -/
theorem keepsSession_sendImage (id : U16) (n : Nat) (cells : List Host.Cell) :
    KeepsSession (execSendImage id n cells) := by
  intro s t h ht
  rcases execSendImage_next ht with ⟨-, a, rfl⟩ | ⟨-, hn, hs⟩
  · exact h.of_unread
  · have hstart := (BetweenFrames.beginSession (s := s) id hn cells).sendStart rfl
    exact keepsSession_poll hstart.of_unread hs

/-- Settles O50, by the event that the step presents. -/
theorem everyStepKeepsTheSessionInvariant : Obligations.EveryStepKeepsTheSessionInvariant := by
  intro s t h ht
  rcases step_cases ht with ⟨-, rfl⟩ | ⟨e, rest, -, hcase⟩
  · exact h
  · have htaken : SessionInv (s.taken rest) := h.of_unread
    rcases hcase with ⟨r, a, -, -, rfl⟩ | ⟨r, -, -, hs⟩ | ⟨-, hs⟩ | ⟨b, c, -, hs⟩ | ⟨b, -, rfl⟩ | ⟨-, rfl⟩
    · exact htaken.of_unread
    · exact keepsSession_sendImage _ _ _ htaken hs
    · exact keepsSession_tick htaken hs
    · exact keepsSession_tick (htaken.of_unread : SessionInv ((s.taken rest).rxArrive c)) hs
    · exact htaken.of_unread
    · exact sessionInv_hardReset htaken.payloadWf

end Sys2Proof.Machine
end

section
/-! The sequence number and the frame it numbers (O58): no step advances the sequence but by one, and then TXF holds the frame
of the new number. One step reacts to at most one reply, so it advances at most once (R151). -/

namespace Sys2Proof.Machine

/-! The relations of a step's start and end -/

/-- The frame in flight, its number and the counts of what is confirmed are as before. -/
def SameFrame (s t : State) : Prop :=
  t.seq = s.seq ∧ t.txf = s.txf ∧ t.curLen = s.curLen ∧ t.chunkIdx = s.chunkIdx ∧ t.sentBytes = s.sentBytes

/-- TXF holds the DATA frame of the first chunk after START, or of the next chunk after DATA (R172 to R174). -/
def ChunkFollows (s t : State) : Prop :=
  t.fsm = .awaitDataAck ∧ ∃ k : U16, k.toNat < t.totalPackets.toNat ∧
    ((s.fsm = .awaitStartAck ∧ k = 0 ∧ t.chunkIdx = s.chunkIdx) ∨
      (s.fsm = .awaitDataAck ∧ k = s.chunkIdx + 1 ∧ t.chunkIdx = s.chunkIdx + 1)) ∧
    exec (.encode 2#8 t.seq (t.chunkBytes k.toNat)) t = .next { t with answer := .bytes t.txf.toList }

/-- TXF holds the END frame, after the START frame of an empty image or after the last chunk (R172, R174, R175). -/
def EndFollows (s t : State) : Prop :=
  t.fsm = .awaitEndAck ∧
    ((s.fsm = .awaitStartAck ∧ t.totalPackets = 0 ∧ t.chunkIdx = s.chunkIdx) ∨
      (s.fsm = .awaitDataAck ∧ s.chunkIdx + 1 = t.totalPackets ∧ t.chunkIdx = s.chunkIdx + 1)) ∧
    exec (.encode 3#8 t.seq []) t = .next { t with answer := .bytes t.txf.toList }

/-- What a step may do to the sequence number and its frame (R24, R152). -/
def FrameAdvance (s t : State) : Prop :=
  SameFrame s t ∨ (t.seq = s.seq + 1 ∧ (ChunkFollows s t ∨ EndFollows s t))

section
variable {s t u : State}

theorem FrameAdvance.refl (s : State) : FrameAdvance s s := .inl ⟨rfl, rfl, rfl, rfl, rfl⟩

/-- What leaves the frame in flight and the sequencer's state may come before an advance. -/
theorem FrameAdvance.after (h : FrameAdvance u t) (hsame : SameFrame s u) (hfsm : u.fsm = s.fsm) :
    FrameAdvance s t := by
  obtain ⟨hseq, htxf, hlen, hidx, hsent⟩ := hsame
  simpa only [FrameAdvance, SameFrame, ChunkFollows, EndFollows, hseq, htxf, hlen, hidx, hsent, hfsm] using h

/-! A frame sent is the one ENCODE builds -/

/-- ENCODE of a stage's command, with a body that a frame can carry, completes with the frame (R121). -/
theorem execEncode_stage (st : Stage) (q : U16) {body : List Byte} (h : body.length ≤ 240) (s : State) :
    execEncode st.command q body s = .next (s.returning (.bytes (encodeFrame st.command q body))) := by
  have hcmd : isCommand st.command = true := by cases st <;> decide
  rw [execEncode, if_pos hcmd, if_neg (Nat.not_lt.mpr h)]

/-- After an emission TXF holds what ENCODE answers for the fields just written (R123, R152). -/
theorem encode_of_sent (s : State) (st : Stage) (q : U16) {body : List Byte} (h : body.length ≤ 240)
    (ht : t = (s.launch st q body).txWrite.startWait) :
    exec (.encode st.command t.seq body) t = .next { t with answer := .bytes t.txf.toList } := by
  subst ht
  have hframe : (s.launch st q body).txWrite.startWait.txf.toList = encodeFrame st.command q body :=
    State.launch_frame s st q h
  rw [hframe]
  exact execEncode_stage st q h _

/-- SEND_DATA(k) puts the frame of chunk `k` in flight, and moves no count (R173). -/
theorem sendDataWith_next_sent {k : U16} (h : sendDataWith .next k s = .next t) :
    t.fsm = .awaitDataAck ∧ t.seq = s.seq + 1 ∧ t.chunkIdx = s.chunkIdx ∧ k.toNat < t.totalPackets.toNat ∧
      exec (.encode 2#8 t.seq (t.chunkBytes k.toNat)) t = .next { t with answer := .bytes t.txf.toList } := by
  obtain ⟨hk, -, hsend⟩ := sendDataWith_next h
  have hlen : (s.chunkBytes k.toNat).length ≤ 240 := by rw [State.chunkBytes_length]; omega
  have henc := encode_of_sent s .data (s.seq + 1) hlen (Host.Outcome.next.inj hsend).symm
  cases hsend
  exact ⟨rfl, rfl, rfl, hk, henc⟩

/-- SEND_END puts the END frame in flight, and moves no count (R175). -/
theorem sendEndWith_next_sent (h : sendEndWith .next s = .next t) :
    t.fsm = .awaitEndAck ∧ t.seq = s.seq + 1 ∧ t.chunkIdx = s.chunkIdx ∧ t.totalPackets = s.totalPackets ∧
      exec (.encode 3#8 t.seq []) t = .next { t with answer := .bytes t.txf.toList } := by
  have henc := encode_of_sent s .final (s.seq + 1) (body := []) (Nat.zero_le 240) (Host.Outcome.next.inj h).symm
  cases h
  exact ⟨rfl, rfl, rfl, rfl, henc⟩

/-! The sequencer's steps -/

/-- ON_ACK on a FIFO that its own poll finds empty (R147): the next frame, by one more, or DONE. -/
theorem onAckWith_frameAdvance (h : onAckWith .next s = .next t) : FrameAdvance s t := by
  rcases onAckWith_next h with ⟨hf, h0, hs⟩ | ⟨hf, -, hs⟩ | ⟨hf, hlast, hs⟩ | ⟨hf, -, hs⟩ | ⟨-, rfl⟩
  · obtain ⟨hfsm, hseq, hidx, htot, henc⟩ := sendEndWith_next_sent hs
    exact .inr ⟨hseq, .inr ⟨hfsm, .inl ⟨hf, htot.trans h0, hidx⟩, henc⟩⟩
  · obtain ⟨hfsm, hseq, hidx, hk, henc⟩ := sendDataWith_next_sent hs
    exact .inr ⟨hseq, .inl ⟨hfsm, 0, hk, .inl ⟨hf, rfl, hidx⟩, henc⟩⟩
  · obtain ⟨hfsm, hseq, hidx, htot, henc⟩ := sendEndWith_next_sent hs
    exact .inr ⟨hseq, .inr ⟨hfsm, .inr ⟨hf, hlast.trans htot.symm, hidx⟩, henc⟩⟩
  · obtain ⟨hfsm, hseq, hidx, hk, henc⟩ := sendDataWith_next_sent hs
    exact .inr ⟨hseq, .inl ⟨hfsm, _, hk, .inr ⟨hf, rfl, hidx⟩, henc⟩⟩
  · exact .inl ⟨rfl, rfl, rfl, rfl, rfl⟩

/-- ATTEMPT_FAILED resends the frame or fails; only the poll it ends with can advance (R148). -/
theorem attemptFailedWith_frameAdvance {p : State → Result}
    (hp : ∀ ⦃u v : State⦄, p u = .next v → FrameAdvance u v) {cause : FailCause}
    (h : attemptFailedWith p cause s = .next t) : FrameAdvance s t := by
  obtain ⟨st, -, ⟨-, hs⟩ | ⟨-, rfl⟩⟩ := attemptFailedWith_next h
  · exact (hp hs).after ⟨rfl, rfl, rfl, rfl, rfl⟩ rfl
  · exact .inl ⟨rfl, rfl, rfl, rfl, rfl⟩

/-- The reaction to a reply (R143). -/
theorem reactWith_frameAdvance {r : PrefixResult} (h : reactWith .next r s = .next t) : FrameAdvance s t := by
  rcases reactWith_next h with ⟨-, hs⟩ | ⟨got, -, hs⟩ | ⟨-, rfl⟩
  · exact (onAckWith_frameAdvance hs).after ⟨rfl, rfl, rfl, rfl, rfl⟩ rfl
  · have hnext : ∀ ⦃u v : State⦄, Host.Outcome.next u = (.next v : Result) → FrameAdvance u v := by
      rintro u v ⟨⟩
      exact .refl u
    exact (attemptFailedWith_frameAdvance hnext hs).after ⟨rfl, rfl, rfl, rfl, rfl⟩ rfl
  · exact .refl _

/-- POLL (R143, R151). -/
theorem poll_frameAdvance (h : poll s = .next t) : FrameAdvance s t := by
  rcases poll_next h with ⟨-, rfl⟩ | ⟨-, hs⟩
  · exact .refl _
  · exact (reactWith_frameAdvance hs).after ⟨rfl, rfl, rfl, rfl, rfl⟩ rfl

/-- TICK (R146). -/
theorem tick_frameAdvance (h : tick s = .next t) : FrameAdvance s t := by
  obtain ⟨-, rfl⟩ | ⟨st, -, ⟨-, hs⟩ | ⟨-, hs⟩⟩ := tick_next h
  · exact .refl _
  · exact (attemptFailedWith_frameAdvance (fun _ _ => poll_frameAdvance) hs).after ⟨rfl, rfl, rfl, rfl, rfl⟩ rfl
  · exact (poll_frameAdvance hs).after ⟨rfl, rfl, rfl, rfl, rfl⟩ rfl

end

/-- Settles O58, by the event that the step presents: only a tick can advance. -/
theorem sequenceAdvancesByOneWithTheFrame : Obligations.SequenceAdvancesByOneWithTheFrame := by
  intro s t h hreset hturned
  show FrameAdvance s t
  rcases step_cases h with ⟨-, rfl⟩ | ⟨e, rest, hp, hcase⟩
  · exact .refl _
  · rcases hcase with ⟨r, a, -, -, rfl⟩ | ⟨r, rfl, hop, hs⟩ | ⟨-, hs⟩ | ⟨b, c, -, hs⟩ | ⟨b, -, rfl⟩ | ⟨rfl, -⟩
    · exact .inl ⟨rfl, rfl, rfl, rfl, rfl⟩
    · rcases execSendImage_next hs with ⟨-, a, rfl⟩ | ⟨hbusy, hlen, -⟩
      · exact .inl ⟨rfl, rfl, rfl, rfl, rfl⟩
      · rcases hturned r rest hp hop with hb | hl
        · exact absurd hb (ne_true_of_eq_false hbusy)
        · exact absurd hlen (Nat.not_le.mpr hl)
    · exact (tick_frameAdvance hs).after ⟨rfl, rfl, rfl, rfl, rfl⟩ rfl
    · exact (tick_frameAdvance hs).after ⟨rfl, rfl, rfl, rfl, rfl⟩ rfl
    · exact .inl ⟨rfl, rfl, rfl, rfl, rfl⟩
    · exact absurd hp (hreset rest)

end Sys2Proof.Machine
end

section
/-! PAYLOAD and the link as the block meets them (O19, O41, O54): bytes that arrive wait in the RX FIFO, a chunk is read only
where the session has it, and the block only reads PAYLOAD. Each step of the sequencer is shown to leave PAYLOAD as it is if
the poll it ends with does. -/

namespace Sys2Proof.Machine

/-! The events that present no operation -/

section
variable {s : State} {rest : List Event}

/-- R140: with no event the block is idle (assumption log 1). -/
theorem step_idle (h : s.pending = []) : step s = .next s := by rw [step, h]

/-- R57: bytes that arrive are appended to the RX FIFO. -/
theorem step_rxArrive {b : List Byte} (h : s.pending = .rxArrive b :: rest) :
    step s = .next ((s.taken rest).rxArrive b) := by rw [step, h]; rfl

/-- R230: a hardware reset acts in any state. -/
theorem step_reset (h : s.pending = .reset :: rest) : step s = .next (s.taken rest).hardReset := by rw [step, h]; rfl

end

/-- Settles O19: an arrival is the one write to the FIFO, and the event is taken. -/
theorem arrivalsAppendAndIdleKeeps : Obligations.ArrivalsAppendAndIdleKeeps :=
  fun _ => ⟨fun _ _ h => step_rxArrive h, step_idle⟩

/-! SEND_DATA where it stops -/

section
variable {p : State → Result} {s : State} {k : U16}

/-- A chunk that the session does not have is refused (R173, assumption log 10). -/
theorem sendDataWith_noSuchChunk (hk : s.totalPackets.toNat ≤ k.toNat) :
    sendDataWith p k s = .refused (.noSuchChunk k) := by
  rw [sendDataWith, if_neg (Nat.not_lt.mpr hk)]

/-- A chunk of the session that starts outside PAYLOAD is a fault (R51, assumption log 9). -/
theorem sendDataWith_outOfRange (hk : k.toNat < s.totalPackets.toNat) (ho : s.payloadLen.toNat ≤ 240 * k.toNat) :
    sendDataWith p k s = .fault (.payloadOutOfRange (240 * k.toNat)) := by
  rw [sendDataWith, if_pos hk, if_neg (Nat.not_lt.mpr ho)]

end

/-- Settles O41, the two bounds of SEND_DATA tested in order. -/
theorem sendDataOutsideTheSessionStops : Obligations.SendDataOutsideTheSessionStops :=
  fun _ _ => ⟨sendDataWith_noSuchChunk, sendDataWith_outOfRange⟩

/-! The sequencer's steps leave PAYLOAD as it is -/

/-- A step of the sequencer leaves PAYLOAD as it is (R50, R235). -/
def KeepsPayload (op : State → Result) : Prop := ∀ ⦃s t : State⦄, op s = .next t → t.payload = s.payload

theorem keepsPayload_next : KeepsPayload .next := fun _ _ h => by
  cases h
  rfl

section
variable {p : State → Result}

/-- Building a frame and EMIT write the frame's registers, the clock and the TX stream (R144, R171, R173, R175). -/
theorem KeepsPayload.sendFrame (hp : KeepsPayload p) (st : Stage) (q : U16) (body : List Byte) :
    KeepsPayload (sendFrameWith p st q body) := fun _ _ h => (hp h).trans rfl

/-- SEND_DATA (R173) reads a chunk. -/
theorem KeepsPayload.sendData (hp : KeepsPayload p) (k : U16) : KeepsPayload (sendDataWith p k) := by
  intro s t h
  obtain ⟨-, -, hsend⟩ := sendDataWith_next h
  exact hp.sendFrame _ _ _ hsend

/-- SEND_END (R175). -/
theorem KeepsPayload.sendEnd (hp : KeepsPayload p) : KeepsPayload (sendEndWith p) :=
  fun _ _ h => hp.sendFrame _ _ _ h

/-- ON_ACK (R147). -/
theorem KeepsPayload.onAck (hp : KeepsPayload p) : KeepsPayload (onAckWith p) := by
  intro s t h
  rcases onAckWith_next h with ⟨-, -, hs⟩ | ⟨-, -, hs⟩ | ⟨-, -, hs⟩ | ⟨-, -, hs⟩ | ⟨-, rfl⟩
  · exact hp.sendEnd hs
  · exact hp.sendData _ hs
  · exact (hp.sendEnd hs).trans s.confirmChunk_payload
  · exact (hp.sendData _ hs).trans s.confirmChunk_payload
  · rfl

/-- ATTEMPT_FAILED (R148, R149). -/
theorem KeepsPayload.attemptFailed (hp : KeepsPayload p) (cause : FailCause) :
    KeepsPayload (attemptFailedWith p cause) := by
  intro s t h
  obtain ⟨st, -, ⟨-, hs⟩ | ⟨-, rfl⟩⟩ := attemptFailedWith_next h
  · exact (hp hs).trans rfl
  · rfl

/-- The reaction to a reply (R143). -/
theorem KeepsPayload.react (hp : KeepsPayload p) (r : PrefixResult) : KeepsPayload (reactWith p r) := by
  intro s t h
  rcases reactWith_next h with ⟨-, hs⟩ | ⟨got, -, hs⟩ | ⟨-, rfl⟩
  · exact (hp.onAck hs).trans rfl
  · exact (hp.attemptFailed _ hs).trans rfl
  · rfl

end

/-- POLL (R143). -/
theorem keepsPayload_poll : KeepsPayload poll := by
  intro s t h
  rcases poll_next h with ⟨-, rfl⟩ | ⟨-, hs⟩
  · rfl
  · exact (keepsPayload_next.react _ hs).trans rfl

/-- TICK (R146). -/
theorem keepsPayload_tick : KeepsPayload tick := by
  intro s t h
  obtain ⟨-, rfl⟩ | ⟨st, -, ⟨-, hs⟩ | ⟨-, hs⟩⟩ := tick_next h
  · rfl
  · exact (keepsPayload_poll.attemptFailed _ hs).trans rfl
  · exact (keepsPayload_poll hs).trans rfl

/-- A SEND_IMAGE that is turned away leaves PAYLOAD as it is (R50, R171). -/
theorem execSendImage_turnedAway_payload {id : U16} {n : Nat} {cells : List Host.Cell} {s t : State}
    (h : execSendImage id n cells s = .next t) (hturned : s.fsm.busy = true ∨ 15728400 < n) :
    t.payload = s.payload := by
  rcases execSendImage_next h with ⟨-, a, rfl⟩ | ⟨hbusy, hlen, -⟩
  · rfl
  · rcases hturned with hb | hn
    · exact absurd hb (ne_true_of_eq_false hbusy)
    · exact absurd hlen (Nat.not_le.mpr hn)

/-- Settles O54, by the event that the step presents: a hardware reset leaves PAYLOAD too (R231). -/
theorem payloadIsReadOnlyToTheBlock : Obligations.PayloadIsReadOnlyToTheBlock := by
  intro s t h hturned a
  have hkept : t.payload = s.payload := by
    rcases step_cases h with ⟨-, rfl⟩ | ⟨e, rest, hp, hcase⟩
    · rfl
    · rcases hcase with ⟨r, v, -, -, rfl⟩ | ⟨r, rfl, hop, hs⟩ | ⟨-, hs⟩ | ⟨b, c, -, hs⟩ | ⟨b, -, rfl⟩ | ⟨-, rfl⟩
      · rfl
      · exact (execSendImage_turnedAway_payload hs (hturned r rest hp hop)).trans rfl
      · exact (keepsPayload_tick hs).trans rfl
      · exact (keepsPayload_tick hs).trans rfl
      · rfl
      · rfl
  rw [hkept]

end Sys2Proof.Machine
end

section
/-! What completes in a session (O52): under the session invariant the chunk that follows lies inside PAYLOAD, so the steps of
the sequencer that an awaiting state runs have a next state (R51, R177). Each is shown to complete if the poll it ends with
does. -/

namespace Sys2Proof.Machine

/-- An operation has a next state: it neither faults nor is refused. -/
def Completes (r : Result) : Prop := ∃ t, r = .next t

theorem completes_next (s : State) : Completes (.next s) := ⟨s, rfl⟩

/-- A step of the sequencer completes in every awaiting state of a session. -/
def CompletesAwaiting (op : State → Result) : Prop :=
  ∀ ⦃s : State⦄ ⦃st : Stage⦄, SessionInv s → s.fsm = st.fsm → Completes (op s)

theorem completesAwaiting_next : CompletesAwaiting .next := fun s _ _ _ => completes_next s

section
variable {p : State → Result} {s : State}

/-- A chunk that the session counts starts inside PAYLOAD (R27, R177). -/
theorem BetweenFrames.chunk_inside (h : BetweenFrames s) (hk : s.chunkIdx.toNat < s.totalPackets.toNat) :
    Config.chunk * s.chunkIdx.toNat < s.payloadLen.toNat := by
  have hp := h.packets
  simp only [packetsFor, Config.chunk] at hp ⊢
  omega

/-- SEND_DATA of the next chunk (R173), unless every chunk is confirmed. -/
theorem CompletesAwaiting.sendData (hp : CompletesAwaiting p) (h : BetweenFrames s) (hmore : s.chunkIdx ≠ s.totalPackets) :
    Completes (sendDataWith p s.chunkIdx s) := by
  have hk : s.chunkIdx.toNat < s.totalPackets.toNat :=
    lt_of_le_of_ne h.chunks fun he => hmore (BitVec.eq_of_toNat_eq he)
  rw [sendDataWith_eq _ _ hk (h.chunk_inside hk)]
  exact hp (st := .data) (h.sendData hk) rfl

/-- SEND_END once every chunk is confirmed (R175). -/
theorem CompletesAwaiting.sendEnd (hp : CompletesAwaiting p) (h : BetweenFrames s) (hall : s.chunkIdx = s.totalPackets) :
    Completes (sendEndWith p s) :=
  hp (st := .final) (h.sendEnd hall) rfl

/-- ON_ACK (R147): at the end of every wait there is a frame to send, or the session is done. -/
theorem CompletesAwaiting.onAck (hp : CompletesAwaiting p) : CompletesAwaiting (onAckWith p) := by
  intro s st h hf
  cases st with
  | start =>
    obtain ⟨hb, hi⟩ := h.startAcked hf
    by_cases h0 : s.totalPackets = 0
    · rw [onAckWith_start_empty hf h0]
      exact hp.sendEnd hb (hi.trans h0.symm)
    · rw [onAckWith_start hf h0, ← hi]
      exact hp.sendData hb fun hall => h0 (hall.symm.trans hi)
  | data =>
    have hb := h.dataAcked hf
    by_cases hl : s.chunkIdx + 1 = s.totalPackets
    · rw [onAckWith_last hf hl]
      exact hp.sendEnd hb hl
    · rw [onAckWith_more hf hl]
      exact hp.sendData hb hl
  | final =>
    rw [onAckWith_end hf]
    exact completes_next _

/-- ATTEMPT_FAILED (R148): a resend, or the failure entry. -/
theorem CompletesAwaiting.attemptFailed (hp : CompletesAwaiting p) (cause : FailCause) :
    CompletesAwaiting (attemptFailedWith p cause) := by
  intro s st h hf
  by_cases hr : s.retryCnt.toNat < st.budget
  · rw [attemptFailedWith_retry hf hr]
    exact hp (h.countRetry hf hr).emitted hf
  · rw [attemptFailedWith_fail hf (Nat.le_of_not_lt hr)]
    exact completes_next _

/-- The reaction to a reply (R143): whatever the bytes are, the wait goes on or ends. -/
theorem CompletesAwaiting.react (hp : CompletesAwaiting p) (r : PrefixResult) : CompletesAwaiting (reactWith p r) := by
  intro s st h hf
  cases r with
  | ack => exact hp.onAck h.of_unread hf
  | nack got => exact hp.attemptFailed _ h.of_unread hf
  | other => exact completes_next s

end

/-- POLL (R143). -/
theorem completesAwaiting_poll : CompletesAwaiting poll := by
  intro s st h hf
  rw [poll_eq]
  split
  · exact completes_next s
  · exact completesAwaiting_next.react _ h.of_unread hf

section
variable {s : State}

/-- TICK (R146) completes in every state of a session; outside an awaiting state it is ignored. -/
theorem SessionInv.tick_completes (h : SessionInv s) : Completes (tick s) := by
  cases hst : s.fsm.stage? with
  | none =>
    rw [tick_ignored (by rw [Fsm.busy, hst]; rfl)]
    exact completes_next s
  | some st =>
    have hf : s.fsm = st.fsm := Fsm.stage?_eq_some.mp hst
    by_cases hl : s.tickCnt.toNat + 1 = st.limit
    · rw [tick_at hf hl]
      exact completesAwaiting_poll.attemptFailed _ h.of_unread hf
    · rw [tick_below hf hl]
      exact completesAwaiting_poll (h.countTick hf hl) hf

/-- Bytes that arrive with a tick may be any (R84). -/
theorem SessionInv.frameArrives_completes (h : SessionInv s) (b : List Byte) : Completes (frameArrives b s) :=
  SessionInv.tick_completes h.of_unread

/-- SEND_IMAGE (R170, R171) completes in every state: turned away it hands back an error, accepted it starts a session. -/
theorem execSendImage_completes (id : U16) (n : Nat) (cells : List Host.Cell) :
    Completes (execSendImage id n cells s) := by
  rw [execSendImage]
  split_ifs with hb hn
  · exact completes_next _
  · exact completes_next _
  · have hstart := (BetweenFrames.beginSession (s := s) id (Nat.le_of_not_lt hn) cells).sendStart rfl
    exact completesAwaiting_poll (st := .start) hstart.of_unread rfl

/-- ENCODE completes for a command (R121), with a frame or with an error. -/
theorem execEncode_completes {c : Byte} (hc : isCommand c = true) (q : U16) (body : List Byte) :
    Completes (execEncode c q body s) := by
  rw [execEncode, if_pos hc]
  split
  · exact completes_next _
  · exact completes_next _

/-- DECODE completes on every byte string (R125). -/
theorem execDecode_completes (w : List Byte) : Completes (execDecode w s) := by
  rw [execDecode]
  split
  · exact completes_next _
  · exact completes_next _

/-- A host request completes, or it is an ENCODE of a command outside 1..5, which is refused (R121). -/
theorem exec_hostRequest_completes_or_refuses (r : HostRequest) :
    Completes (exec (decodeRequest r) s) ∨
      (r.op = 1#2 ∧ isCommand r.command ≠ true ∧
        exec (decodeRequest r) s = .refused (.commandOutsideEnum r.command)) := by
  rw [decodeRequest]
  split_ifs with h0 h1 h2
  · exact .inl (completes_next _)
  · by_cases hc : isCommand r.command = true
    · exact .inl (execEncode_completes hc _ _)
    · exact .inr ⟨h1, hc, if_neg hc⟩
  · exact .inl (execDecode_completes _)
  · exact .inl (execSendImage_completes _ _ _)

/-- In a session a step completes, or it is refused for the one precondition that an event has (R51, R121). -/
theorem SessionInv.step_completes_or_refuses (h : SessionInv s) :
    Completes (step s) ∨
      ∃ e ∈ s.pending.head?, ¬ EventOk e ∧ ∃ why, step s = .refused why := by
  cases hp : s.pending with
  | nil => exact .inl (step_idle hp ▸ completes_next s)
  | cons e rest =>
    have htaken : SessionInv (s.taken rest) := h.of_unread
    cases e with
    | hostReq r =>
      rw [step_hostReq hp]
      rcases exec_hostRequest_completes_or_refuses (s := s.taken rest) r with hdone | ⟨hop, hc, hx⟩
      · exact .inl hdone
      · exact .inr ⟨.hostReq r, rfl, fun hok => hc (hok hop), _, hx⟩
    | tick =>
      rw [step_tick hp]
      exact .inl htaken.tick_completes
    | rxArrive b =>
      rw [step_rxArrive hp]
      exact .inl (completes_next _)
    | frameAtTick b =>
      left
      cases hd : decode (.frame .toBlock b) with
      | ok i =>
        obtain ⟨c, hc⟩ := exec_received hd (s.taken rest)
        rw [step_frame hp hd, hc]
        exact htaken.frameArrives_completes c
      | error why =>
        rw [step_unframed hp hd]
        exact htaken.frameArrives_completes b
    | reset =>
      rw [step_reset hp]
      exact .inl (completes_next _)

end

/-- Settles O52: neither of the step's two outcomes in a session is a fault, and an admitted event leaves the first. -/
theorem stepsCompleteUnderTheInvariant : Obligations.StepsCompleteUnderTheInvariant := by
  intro s h
  rcases h.step_completes_or_refuses with ⟨t, ht⟩ | ⟨e, he, hbad, why, hwhy⟩
  · exact ⟨fun _ hf => (nomatch ht.symm.trans hf), fun _ => ⟨t, ht⟩⟩
  · exact ⟨fun _ hf => (nomatch hwhy.symm.trans hf), fun hok => absurd (hok e he) hbad⟩

end Sys2Proof.Machine
end

section
/-! From bits to operations and back (O15, O16, O17): a frame's fields at their offsets are the whole of its bytes, and its
bytes are the whole of its fields, so the decoder and the encoder undo each other. -/

namespace Sys2Proof.Machine

/-! Bytes to values and back (R10, R82) -/

/-- LE16 takes a u16 apart into the two bytes it was put together from (R10). -/
@[simp] theorem bytesLE16_le16 (lo hi : Byte) : bytesLE16 (le16 lo hi) = [lo, hi] := by
  have hlo : lowByte (le16 lo hi) = lo := BitVec.extractLsb'_append_eq_right
  have hhi : highByte (le16 lo hi) = hi := BitVec.extractLsb'_append_eq_left
  rw [bytesLE16, hlo, hhi]

/-- LE32 takes a u32 apart into the four bytes it was put together from (R10). -/
@[simp] theorem bytesLE32_le32 (b0 b1 b2 b3 : Byte) : bytesLE32 (le32 b0 b1 b2 b3) = [b0, b1, b2, b3] := by
  have h0 : (le32 b0 b1 b2 b3).extractLsb' 0 8 = b0 := BitVec.extractLsb'_append_eq_right
  have h1 : (le32 b0 b1 b2 b3).extractLsb' 8 8 = b1 :=
    (BitVec.extractLsb'_append_eq_of_le (by decide)).trans BitVec.extractLsb'_append_eq_right
  have h2 : (le32 b0 b1 b2 b3).extractLsb' 16 8 = b2 :=
    (BitVec.extractLsb'_append_eq_of_le (by decide)).trans <|
      (BitVec.extractLsb'_append_eq_of_le (by decide)).trans BitVec.extractLsb'_append_eq_right
  have h3 : (le32 b0 b1 b2 b3).extractLsb' 24 8 = b3 :=
    (BitVec.extractLsb'_append_eq_of_le (by decide)).trans <|
      (BitVec.extractLsb'_append_eq_of_le (by decide)).trans BitVec.extractLsb'_append_eq_left
  rw [bytesLE32, h0, h1, h2, h3]

/-- The bytes of a string from an offset inside it on. -/
theorem drop_eq_byteAt_cons {w : List Byte} {i : Nat} (h : i < w.length) : w.drop i = byteAt w i :: w.drop (i + 1) := by
  rw [List.drop_eq_getElem_cons h, byteAt, List.getD_eq_getElem _ _ h]

theorem byteAt_singleton {w : List Byte} {i : Nat} (h : i < w.length) : [byteAt w i] = (w.drop i).take 1 := by
  rw [drop_eq_byteAt_cons h]; rfl

/-- A u16 field of a byte string, as the two bytes at its offset (R82). -/
theorem bytesLE16_u16At {w : List Byte} {i : Nat} (h : i + 1 < w.length) : bytesLE16 (u16At w i) = (w.drop i).take 2 := by
  rw [u16At, bytesLE16_le16, drop_eq_byteAt_cons (by omega), drop_eq_byteAt_cons h]; rfl

/-- The header field of a byte string, as its first four bytes (R82). -/
theorem bytesLE32_headerOf {w : List Byte} (h : 4 ≤ w.length) : bytesLE32 (headerOf w) = w.take 4 := by
  rw [headerOf, bytesLE32_le32, ← List.drop_zero (l := w), drop_eq_byteAt_cons (by omega), drop_eq_byteAt_cons (by omega),
    drop_eq_byteAt_cons (by omega), drop_eq_byteAt_cons (by omega)]
  rfl

/-- The fields of a frame are the whole of its 250 bytes: put together again they are the frame (R70, R82). -/
theorem frameImage_of_fields {w : List Byte} (hl : w.length = 250) (hm : headerOf w = Config.magic) :
    frameImage (byteAt w 4) (u16At w 5) (byteAt w 7) (payloadField w) (u16At w 248) = w := by
  calc frameImage (byteAt w 4) (u16At w 5) (byteAt w 7) (payloadField w) (u16At w 248)
      = w.take 4 ++ (w.drop 4).take 1 ++ (w.drop 5).take 2 ++ (w.drop 7).take 1 ++ (w.drop 8).take 240
          ++ (w.drop 248).take 2 := by
        rw [frameImage, frameCovered, ← hm, bytesLE32_headerOf (by omega), byteAt_singleton (by omega),
          bytesLE16_u16At (by omega), byteAt_singleton (by omega), bytesLE16_u16At (by omega), payloadField]
    _ = w.take 250 := by simp only [← List.take_add]
    _ = w := List.take_of_length_le hl.le

/-! The decoder on a frame -/

/-- A frame image is decoded by its command, with the fields it was put together from (R70, R82, R83). -/
theorem decode_frameImage {dir : Direction} {c l : Byte} {q r : U16} {p : List Byte} (hp : payloadFieldOk p = true) :
    decode (.frame dir (frameImage c q l p r)) = frameInstr dir c q l p r := by
  have h240 : p.length = 240 := by simpa [payloadFieldOk, Config.chunk] using hp
  obtain ⟨hmagic, hcommand, hsequence, hlength⟩ := frameImage_fields c q l p r
  obtain ⟨hpayload, hcrc⟩ := frameImage_tail c q l r h240
  have hsize : (frameImage c q l p r).length = Config.frameLen := by rw [frameImage_length, h240]
  rw [decode, decodeFrameBytes, if_pos hsize, if_pos hmagic, hcommand, hsequence, hlength, hpayload, hcrc]

/-- What the decoder accepts as a frame: 250 bytes with the header, read by the command byte (R70, R71, R82). -/
theorem decode_frame_ok {dir : Direction} {w : List Byte} {i : Instr} (h : decode (.frame dir w) = .ok i) :
    w.length = 250 ∧ headerOf w = Config.magic ∧
      frameInstr dir (byteAt w 4) (u16At w 5) (byteAt w 7) (payloadField w) (u16At w 248) = .ok i := by
  rw [decode, decodeFrameBytes] at h
  split_ifs at h with hl hm
  exact ⟨hl, hm, h⟩

/-- The operation of a command byte and fields encodes to the frame of that command and those fields, on the direction it was
read from (R70, R74). -/
theorem encode_of_frameInstr {dir : Direction} {c l : Byte} {q r : U16} {p : List Byte} {i : Instr}
    (h : frameInstr dir c q l p r = .ok i) : encode i = some (.frame dir (frameImage c q l p r)) := by
  unfold frameInstr at h
  split_ifs at h with hstart hdata hend hack hnack
  · subst hstart; cases h; rfl
  · subst hdata; cases h; rfl
  · subst hend; cases h; rfl
  · subst hack; cases dir <;> cases h; rfl
  · subst hnack; cases dir <;> cases h; rfl

/-- A byte string that decodes to a frame's operation is what the operation encodes to (R70, R85). -/
theorem encode_of_decode_frame {dir : Direction} {w : List Byte} {i : Instr} (h : decode (.frame dir w) = .ok i) :
    encode i = some (.frame dir w) := by
  obtain ⟨hl, hm, hi⟩ := decode_frame_ok h
  rw [encode_of_frameInstr hi, frameImage_of_fields hl hm]

/-! The round trips -/

/-- Every selector names an operation that has an encoding (R83). -/
theorem encode_decodeRequest_ne_none (r : HostRequest) : encode (decodeRequest r) ≠ none := by
  by_cases hop : r.op = 3#2
  · rw [decodeRequest_sendImage hop]; nofun
  · rcases decodeRequest_codec hop with hd | hd | hd <;> rw [hd] <;> nofun

/-- What the decoder reads has an encoding: no row of format INTERNAL is read from anything (R83). -/
theorem encode_ne_none_of_decode {e : Encoded} {i : Instr} (h : decode e = .ok i) : encode i ≠ none := by
  cases e with
  | frame dir w => rw [encode_of_decode_frame h]; nofun
  | request r => cases h; exact encode_decodeRequest_ne_none r

/-- The encoding of a well-formed operation decodes to it (R70, R83). -/
theorem decode_of_encode {i : Instr} {e : Encoded} (hw : i.wellFormed = true) (h : encode i = some e) :
    decode e = .ok i := by
  cases i with
  | startFrame | dataFrame | endFrame => cases h; exact decode_frameImage (Bool.and_eq_true_iff.mp hw).1
  | ackFrame | nackFrame => cases h; exact decode_frameImage hw
  | crc16 | encode | decode | sendImage => cases h; rfl
  | _ => cases h

/-- Settles O16: the round trip from a well-formed operation, and that what is read has an encoding. -/
theorem decodeOfEncodeIsTheOperation : Obligations.DecodeOfEncodeIsTheOperation :=
  fun _ => ⟨fun _ => decode_of_encode, fun hnone _ hd => encode_ne_none_of_decode hd hnone⟩

/-- Settles O17: the round trip from the bytes of a frame. -/
theorem encodeOfDecodedFrameIsItsBytes : Obligations.EncodeOfDecodedFrameIsItsBytes :=
  fun _ _ _ h => ⟨(decode_frame_ok h).1, encode_of_decode_frame h⟩

/-! The words of the opcode table -/

/-- The numbering of a word's bytes, cut at any byte (R70). -/
theorem bytesOfNat_add (m n w : Nat) : bytesOfNat (m + n) w = bytesOfNat m w ++ bytesOfNat n (w / 256 ^ m) := by
  induction m generalizing w with
  | zero => simp [bytesOfNat]
  | succ m ih => rw [Nat.add_right_comm, bytesOfNat, ih, Nat.div_div_eq_div_mul, ← Nat.pow_succ']; rfl

theorem bytesOfNat_zero (n : Nat) : bytesOfNat n 0 = List.replicate n 0 := by
  induction n with
  | zero => rfl
  | succ n ih => rw [bytesOfNat, Nat.zero_div, ih]; rfl

/-- A table row of at most 8 bytes stands for those bytes and 242 zeros (R70). -/
theorem tableEncoded_frame {nbits w : Nat} (hn : 8 < nbits) (hw : w < 2 ^ nbits) (h8 : w < 256 ^ 8) :
    tableEncoded nbits w = .frame .toBlock (bytesOfNat 8 w ++ List.replicate 242 0) := by
  have hsplit : bytesOfNat Config.frameLen w = bytesOfNat 8 w ++ bytesOfNat 242 (w / 256 ^ 8) := bytesOfNat_add 8 242 w
  rw [tableEncoded, if_neg (by omega), Nat.mod_eq_of_lt hw, hsplit, Nat.div_eq_of_lt h8, bytesOfNat_zero]

/-- A selector word is the request with that selector, its operands zero or empty (R83; assumption log 4). -/
theorem decodeTableWord_selector (w : Nat) : decodeTableWord 8 w = some (decodeRequest { op := BitVec.ofNat 2 w }) := rfl

/-- A word with a frame's first 8 bytes is the frame received with those fields, a zero payload and a zero trailer
(R70, R82, R83; assumption log 3). -/
theorem decodeTableWord_frame {nbits w : Nat} (c : Byte) (q : U16) (l : Byte)
    (hb : bytesOfNat 8 w = bytesLE32 Config.magic ++ [c] ++ bytesLE16 q ++ [l])
    (hn : 8 < nbits := by decide) (hw : w < 2 ^ nbits := by decide) (h8 : w < 256 ^ 8 := by decide) :
    decodeTableWord nbits w = (frameInstr .toBlock c q l (List.replicate 240 0) 0).toOption := by
  have hzeros : List.replicate 242 (0 : Byte) = List.replicate 240 0 ++ bytesLE16 0 :=
    List.replicate_add 240 2 0
  have himage : bytesOfNat 8 w ++ List.replicate 242 0 = frameImage c q l (List.replicate 240 0) 0 := by
    rw [hb, hzeros, ← List.append_assoc, frameImage, frameCovered]
  have hp : payloadFieldOk (List.replicate 240 0) = true := beq_iff_eq.mpr List.length_replicate
  rw [decodeTableWord, tableEncoded_frame hn hw h8, himage, decode_frameImage hp]
  cases frameInstr .toBlock c q l (List.replicate 240 0) 0 <;> rfl

/-- A word whose first four bytes are not the header is no frame of the table (R71, R84). -/
theorem decodeTableWord_eq_none {nbits w : Nat} (hm : headerOf (bytesOfNat 8 w) ≠ Config.magic)
    (hn : 8 < nbits := by decide) (hw : w < 2 ^ nbits := by decide) (h8 : w < 256 ^ 8 := by decide) :
    decodeTableWord nbits w = none := by
  have hheader : headerOf (bytesOfNat 8 w ++ List.replicate 242 0) ≠ Config.magic := hm
  have hsize : (bytesOfNat 8 w ++ List.replicate 242 0).length = Config.frameLen := by
    rw [List.length_append, List.length_replicate]; rfl
  rw [decodeTableWord, tableEncoded_frame hn hw h8, decode, decodeFrameBytes, if_pos hsize, if_neg hheader]

/-- Settles O15: the four selectors, then each frame's head against its word; a word with another command or another header is
no frame of the table. -/
theorem tableWordsDecodeToTheirRows : Obligations.TableWordsDecodeToTheirRows := by
  refine ⟨decodeTableWord_selector 0, decodeTableWord_selector 1, decodeTableWord_selector 2, decodeTableWord_selector 3,
    ?start, ?data, ?final, ?ack, ?nack, ?command, ?header⟩
  case start => exact decodeTableWord_frame cmdStart 0 0 (by decide)
  case data => exact decodeTableWord_frame cmdData 0x1234 0xF0 (by decide)
  case final => exact decodeTableWord_frame cmdEnd 4 0 (by decide)
  case ack => exact decodeTableWord_frame cmdAck 0x0101 0 (by decide)
  case nack => exact decodeTableWord_frame cmdNack 9 0 (by decide)
  case command => exact decodeTableWord_frame 6 0 0 (by decide)
  case header => exact decodeTableWord_eq_none (by decide)

end Sys2Proof.Machine
end

section
/-! The CRC-16 unit (O1 to O7, O11). One step of the register is linear over exclusive or, the register and the bit together,
and loses nothing of the register; the byte's step inherits both, and so does the string's. The byte-at-once form, the affine
law and the detection of a flipped bit follow from that, and the zero residue from what a register does with its own bits. -/

namespace Sys2Proof.Machine

/-! One bit (R101) -/

/-- The feedback constant has bits 0, 13 and 15 (R100). -/
theorem crcPoly_getLsbD : ∀ k < 16, Config.crcPoly.getLsbD k = decide (k = 0 ∨ k = 13 ∨ k = 15) := by decide

/-- Each bit after a step: the one above it, and the feedback where the constant has a bit (R101). -/
theorem crcBitStep_getLsbD (c : U16) (d : Bool) (k : Nat) :
    (crcBitStep c d).getLsbD k = (c.getLsbD (k + 1) ^^ (crcFeedback c d && Config.crcPoly.getLsbD k)) := by
  rw [crcBitStep]
  cases crcFeedback c d <;> simp [Nat.add_comm]

/-- Bit 15 after a step is the feedback bit (R101). -/
theorem crcBitStep_getLsbD_15 (c : U16) (d : Bool) : (crcBitStep c d).getLsbD 15 = crcFeedback c d := by
  rw [crcBitStep_getLsbD, crcPoly_getLsbD 15 (by decide), BitVec.getLsbD_of_ge c 16 (by decide)]
  simp

/-- A step on a zero bit is the conditional shift of the byte-at-once form (R103). -/
theorem crcBitStep_false (c : U16) : crcBitStep c false = crcShift c := by
  simp [crcBitStep, crcShift, crcFeedback]

/-- A step on the register's own bit 0 has no feedback. -/
theorem crcBitStep_own (c : U16) : crcBitStep c (c.getLsbD 0) = c >>> 1 := by
  simp [crcBitStep, crcFeedback]

/-- The feedback bit (R101). -/
theorem crcFeedback_eq (c : U16) (d : Bool) : crcFeedback c d = (c.getLsbD 0 ^^ d) := rfl

theorem crcFeedback_xor (c c' : U16) (d d' : Bool) :
    crcFeedback (c ^^^ c') (d ^^ d') = (crcFeedback c d ^^ crcFeedback c' d') := by
  simp only [crcFeedback_eq, BitVec.getLsbD_xor, Bool.xor_assoc, Bool.xor_left_comm]

/-- A step is linear over exclusive or. -/
theorem crcBitStep_xor (c c' : U16) (d d' : Bool) :
    crcBitStep (c ^^^ c') (d ^^ d') = crcBitStep c d ^^^ crcBitStep c' d' := by
  apply BitVec.eq_of_getLsbD_eq
  intro k _
  simp only [crcBitStep_getLsbD, crcFeedback_xor, BitVec.getLsbD_xor, Bool.and_xor_distrib_right, Bool.xor_assoc,
    Bool.xor_left_comm]

/-- The shift loses nothing: bit 15 after it is the bit that left at the right. -/
theorem crcShift_injective : Function.Injective crcShift := by
  intro c c' h
  rw [← crcBitStep_false, ← crcBitStep_false] at h
  have hfeedback : crcFeedback c false = crcFeedback c' false := by
    rw [← crcBitStep_getLsbD_15, ← crcBitStep_getLsbD_15, h]
  apply BitVec.eq_of_getLsbD_eq
  intro k _
  cases k with
  | zero => simpa only [crcFeedback_eq, Bool.xor_false] using hfeedback
  | succ k =>
    have hbit := congrArg (BitVec.getLsbD · k) h
    simpa only [crcBitStep_getLsbD, hfeedback, Bool.xor_left_inj] using hbit

/-! One byte (R102, R103) -/

/-- A conditional shift with a byte in the register's low bits is a step on the byte's bit 0, with the rest of the byte left in
the low bits. -/
theorem crcShift_xor_setWidth (c : U16) (b : Byte) :
    crcShift (c ^^^ b.setWidth 16) = crcBitStep c (b.getLsbD 0) ^^^ (b >>> 1).setWidth 16 := by
  have hbit : (b.setWidth 16).getLsbD 0 = b.getLsbD 0 := by simp
  have hrest : (b >>> 1).setWidth 16 = b.setWidth 16 >>> 1 := by simp
  calc crcShift (c ^^^ b.setWidth 16)
      = crcBitStep (c ^^^ b.setWidth 16) (b.getLsbD 0 ^^ b.getLsbD 0) := by rw [Bool.xor_self, crcBitStep_false]
    _ = crcBitStep c (b.getLsbD 0) ^^^ (b >>> 1).setWidth 16 := by
        rw [crcBitStep_xor, hrest, ← crcBitStep_own, hbit]

/-- Settles O3: before each of the eight shifts the low bits of the register hold the bits of the byte not yet consumed, and
none is left after the last. -/
theorem crcByteAtOnceIsBitSerial : Obligations.CrcByteAtOnceIsBitSerial := by
  intro c b
  have hnone : b >>> 8 = 0 := BitVec.ushiftRight_eq_zero (by decide)
  simp only [crcByteAtOnce, crcShift_xor_setWidth, ← BitVec.shiftRight_add, BitVec.getLsbD_ushiftRight, Nat.reduceAdd, hnone]
  exact BitVec.xor_zero

/-- The byte's step: the byte into the low bits, then eight conditional shifts (R103). -/
theorem crcByteStep_eq_iterate (c : U16) (b : Byte) : crcByteStep c b = crcShift^[8] (c ^^^ b.setWidth 16) :=
  (crcByteAtOnceIsBitSerial c b).symm

theorem crcByteStep_left_injective (b : Byte) : Function.Injective (crcByteStep · b) := by
  intro c c' h
  simp only [crcByteStep_eq_iterate] at h
  exact (BitVec.xor_left_inj _).mp (crcShift_injective.iterate 8 h)

theorem crcByteStep_right_injective (c : U16) : Function.Injective (crcByteStep c) := by
  intro b b' h
  simp only [crcByteStep_eq_iterate] at h
  have hwide : b.setWidth 16 = b'.setWidth 16 := (BitVec.xor_right_inj _).mp (crcShift_injective.iterate 8 h)
  simpa using congrArg (BitVec.setWidth 8) hwide

/-- The byte's step is linear over exclusive or, the register and the byte together. -/
theorem crcByteStep_xor (c c' : U16) (b b' : Byte) :
    crcByteStep (c ^^^ c') (b ^^^ b') = crcByteStep c b ^^^ crcByteStep c' b' := by
  simp only [crcByteStep, bitsOf, List.foldl_cons, List.foldl_nil, BitVec.getLsbD_xor, crcBitStep_xor]

/-- A step on the register's own low byte has no feedback at any of its bits. -/
theorem crcByteStep_lowByte (c : U16) : crcByteStep c (lowByte c) = c >>> 8 := by
  have hown (n : Nat) (hn : n < 8) : crcBitStep (c >>> n) ((lowByte c).getLsbD n) = c >>> (n + 1) := by
    have hbit : (lowByte c).getLsbD n = (c >>> n).getLsbD 0 := by simp [lowByte, hn]
    rw [hbit, crcBitStep_own, BitVec.shiftRight_add]
  have h0 : crcBitStep c ((lowByte c).getLsbD 0) = c >>> 1 := hown 0 (by decide)
  simp only [crcByteStep, bitsOf, List.foldl_cons, List.foldl_nil, h0, hown, Nat.reduceLT, Nat.reduceAdd]

/-! A string of bytes (R104, R105, R108, R111) -/

theorem crcStream_injective (m : List Byte) : Function.Injective (crcStream · m) := by
  induction m with
  | nil => exact Function.injective_id
  | cons b m ih => exact ih.comp (crcByteStep_left_injective b)

/-- The stream's register is linear over exclusive or, on strings of one length. -/
theorem crcStream_zipWith_xor (c c' : U16) {m m' : List Byte} (h : m.length = m'.length) :
    crcStream (c ^^^ c') (List.zipWith (fun x y => x ^^^ y) m m') = crcStream c m ^^^ crcStream c' m' := by
  induction m generalizing c c' m' with
  | nil => cases List.eq_nil_of_length_eq_zero h.symm; rfl
  | cons b m ih =>
    cases m' with
    | nil => cases h
    | cons b' m' =>
      rw [List.zipWith_cons_cons, crcStream_cons, crcByteStep_xor, ih _ _ (Nat.succ.inj h)]
      rfl

/-- Strings that differ in one byte have different CRCs. -/
theorem crc16_set_injective {m : List Byte} {i : Nat} (hi : i < m.length) :
    Function.Injective fun b => crc16 (m.set i b) := by
  intro b b' h
  simp only [crc16, List.set_eq_take_append_cons_drop, if_pos hi, crcStream_append, crcStream_cons] at h
  exact crcByteStep_right_injective _ (crcStream_injective _ h)

/-- A register fed its own two bytes, low byte first, ends at zero (R108). -/
theorem crcStream_own (c : U16) : crcStream c (bytesLE16 c) = 0 := by
  have hhigh : highByte c = lowByte (c >>> 8) := by
    apply BitVec.eq_of_getLsbD_eq
    intro k hk
    simp [highByte, lowByte, hk]
  have hnone : c >>> 8 >>> 8 = 0 := by rw [← BitVec.shiftRight_add]; exact BitVec.ushiftRight_eq_zero (by decide)
  rw [bytesLE16, crcStream_cons, crcByteStep_lowByte, hhigh, crcStream_cons, crcByteStep_lowByte, hnone, crcStream_nil]

/-- Two bytes bring the register to zero exactly when they are its own, low byte first (R108). -/
theorem crcStream_bytesLE16_eq_zero_iff (c v : U16) : crcStream c (bytesLE16 v) = 0 ↔ c = v := by
  rw [← crcStream_own v]
  exact (crcStream_injective (bytesLE16 v)).eq_iff

/-- The CRC of a frame and its trailer is zero exactly when the validator passes (R107, R108). -/
theorem crc16_eq_zero_iff {f : List Byte} (h : f.length = 250) : crc16 f = 0 ↔ crc16 (f.take 248) = u16At f 248 := by
  have hsplit : f = f.take 248 ++ bytesLE16 (u16At f 248) := by
    have htrailer : (f.drop 248).length ≤ 2 := by simp [h]
    rw [bytesLE16_u16At (by omega), List.take_of_length_le htrailer, List.take_append_drop]
  calc crc16 f = 0
      ↔ crcStream (crc16 (f.take 248)) (bytesLE16 (u16At f 248)) = 0 := by
        rw [crc16, crc16, ← crcStream_append, ← hsplit]
    _ ↔ crc16 (f.take 248) = u16At f 248 := crcStream_bytesLE16_eq_zero_iff _ _

/-- A u16 field of a byte string has a given value when its two bytes do (R10, R82). -/
theorem eq_u16At_iff (v : U16) (f : List Byte) (i : Nat) :
    v = u16At f i ↔ v.toNat = (byteAt f i).toNat + 256 * (byteAt f (i + 1)).toNat := by
  rw [u16At, ← le16_toNat, BitVec.toNat_inj]

/-- Settles O5: a register exclusive or itself twice is the register, so the three initial values are one. -/
theorem crc16IsAffine : Obligations.Crc16IsAffine := by
  intro a b c hab hbc
  have hlen : (List.zipWith (fun x y => x ^^^ y) a b).length = c.length := by simp [List.length_zipWith, hab, hbc]
  have hinit : Config.crcInit ^^^ Config.crcInit ^^^ Config.crcInit = Config.crcInit := by decide
  calc crc16 a ^^^ crc16 b ^^^ crc16 c
      = crcStream (Config.crcInit ^^^ Config.crcInit ^^^ Config.crcInit)
          (List.zipWith (fun x y => x ^^^ y) (List.zipWith (fun x y => x ^^^ y) a b) c) := by
        rw [crcStream_zipWith_xor _ _ hlen, crcStream_zipWith_xor _ _ hab, crc16, crc16, crc16]
    _ = crc16 (List.zipWith (fun x y => x ^^^ y) (List.zipWith (fun x y => x ^^^ y) a b) c) := by rw [hinit, crc16]

/-- Settles O6: the byte with a bit flipped is another byte. -/
theorem singleBitFlipChangesCrc : Obligations.SingleBitFlipChangesCrc := by
  intro m i j hi hj h
  have hself : m.set i (byteAt m i) = m := by
    rw [byteAt, List.getD_eq_getElem _ _ hi, List.set_getElem_self]
  have hbyte : byteAt m i ^^^ (1#8 <<< j) = byteAt m i := crc16_set_injective hi (h.trans (congrArg crc16 hself.symm))
  have hbit := congrArg (BitVec.getLsbD · j) hbyte
  simp [hj] at hbit

/-- Settles O7: the residue of the frame, with its trailer read as a number. -/
theorem zeroResidueIsValidTrailer : Obligations.ZeroResidueIsValidTrailer := fun f h =>
  (crc16_eq_zero_iff h).trans (eq_u16At_iff _ f 248)

/-! The unit's operations (R101, R102, R104, R110) -/

/-- Operations that each put the CRC register one step further put it, in a row, as many steps further. -/
theorem foldl_exec_crc {α : Type} {op : α → Instr} {next : U16 → α → U16}
    (h : ∀ x s, exec (op x) s = .next { s with crc := next s.crc x }) (xs : List α) (s : State) :
    xs.foldl (fun r x => andThen r (exec (op x))) (.next s) = .next { s with crc := xs.foldl next s.crc } := by
  induction xs generalizing s with
  | nil => rfl
  | cons x xs ih =>
    rw [List.foldl_cons, andThen, h, ih]
    rfl

/-- CRC_BIT (R101). -/
theorem exec_crcBit (d : Bool) (s : State) : exec (.crcBit d) s = .next { s with crc := crcBitStep s.crc d } := rfl

/-- CRC_BYTE (R102). -/
theorem exec_crcByte (b : Byte) (s : State) : exec (.crcByte b) s = .next { s with crc := crcByteStep s.crc b } := rfl

/-- CRC16, which leaves the register alone (R35, R104). -/
theorem exec_crc16 (m : List Byte) (s : State) : exec (.crc16 m) s = .next { s with answer := .crc (crc16 m) } := rfl

/-- Settles O1: the bit equation at each of the sixteen places. -/
theorem crcBitGivesEveryRegisterBit : Obligations.CrcBitGivesEveryRegisterBit := by
  intro d s
  have hbit (k : Nat) (hk : k < 16) : (crcBitStep s.crc d).getLsbD k
      = (s.crc.getLsbD (k + 1) ^^ ((s.crc.getLsbD 0 ^^ d) && decide (k = 0 ∨ k = 13 ∨ k = 15))) := by
    rw [crcBitStep_getLsbD, crcPoly_getLsbD k hk, crcFeedback_eq]
  refine ⟨crcBitStep s.crc d, exec_crcBit d s, ?b15, ?b14, ?b13, fun k h1 h12 => ?b1to12, ?b0⟩
  case b15 => exact crcBitStep_getLsbD_15 s.crc d
  case b14 => rw [hbit 14 (by decide)]; simp
  case b13 => rw [hbit 13 (by decide)]; simp
  case b1to12 =>
    have hno : ¬ (k = 0 ∨ k = 13 ∨ k = 15) := by omega
    simp [hbit k (by omega), hno]
  case b0 => rw [hbit 0 (by decide)]; simp

/-- Settles O2: the eight operations in a row, and the trace of the rule's example. -/
theorem crcByteIsEightBitSteps : Obligations.CrcByteIsEightBitSteps := by
  refine ⟨fun b s => ⟨crcByteStep s.crc b, exec_crcByte b s, ?_⟩, fun s h => ?_, by decide⟩
  · exact foldl_exec_crc (next := fun c i => crcBitStep c (b.getLsbD i)) (fun i => exec_crcBit (b.getLsbD i)) _ s
  · have hstep : crcByteStep 0xFFFF#16 0x01#8 = 0x807E#16 := by decide
    rw [exec_crcByte, h, hstep]

/-- Settles O4: CRC_BYTE in a row from the initial value. -/
theorem crc16IsInitThenEveryByte : Obligations.Crc16IsInitThenEveryByte := fun m s =>
  ⟨crc16 m, exec_crc16 m s, foldl_exec_crc exec_crcByte m { s with crc := 0xFFFF#16 }⟩

/-! The validator (R107) -/

/-- The validator compares all 16 bits (R107). -/
theorem crcValid_iff (f : List Byte) : crcValid f = true ↔ crc16 (f.take 248) = u16At f 248 := by
  rw [crcValid, beq_iff_eq]

/-- The first four bytes of the header constant are read as the header constant (R71). -/
theorem headerOf_of_take {f : List Byte} (h : f.take 4 = [0x5A#8, 0xA5#8, 0x55#8, 0xAA#8]) : headerOf f = Config.magic := by
  have hm : le32 0x5A#8 0xA5#8 0x55#8 0xAA#8 = Config.magic := by decide
  rw [← List.take_append_drop 4 f, h]
  exact hm

/-- DECODE of 250 bytes with the header: the validator alone decides (R125). -/
theorem execDecode_of_header {f : List Byte} (hl : f.length = 250) (hm : headerOf f = Config.magic) (s : State) :
    execDecode f s = .next (s.returning (if crcValid f then .frame (frameOf f)
      else .error (.checksumMismatch (crc16 (f.take 248)) (u16At f 248)))) := by
  rw [execDecode, decodeFrame, if_pos hl, if_pos hm]
  cases crcValid f <;> rfl

/-- DECODE of 250 bytes with the header reports a checksum exactly when the validator does not pass (R107, R125). -/
theorem exec_decode_checksumMismatch_iff {f : List Byte} (hl : f.length = 250) (hm : headerOf f = Config.magic) (s : State) :
    (∃ c r, exec (.decode f) s = .next { s with answer := .error (.checksumMismatch c r) }) ↔ crcValid f = false := by
  have hexec : exec (.decode f) s = _ := execDecode_of_header hl hm s
  rw [hexec]
  cases crcValid f with
  | true => exact iff_of_false (fun ⟨_, _, h⟩ => nomatch congrArg State.answer (Host.Outcome.next.inj h)) nofun
  | false => exact iff_of_true ⟨_, _, rfl⟩ rfl

/-- A run of one byte, cut in two. -/
theorem crcStream_replicate_add (c : U16) (b : Byte) (m n : Nat) :
    crcStream c (List.replicate (m + n) b) = crcStream (crcStream c (List.replicate m b)) (List.replicate n b) := by
  rw [List.replicate_add, crcStream_append]

/-- The CRC of the example's covered bytes, its 240 zeros in runs short enough to evaluate (R107). -/
theorem crc16_example :
    crc16 ([0x5A#8, 0xA5#8, 0x55#8, 0xAA#8, 3#8, 2#8, 0#8, 0#8] ++ List.replicate 240 0#8) = 0xB3BD#16 := by
  have hhead : crcStream Config.crcInit [0x5A#8, 0xA5#8, 0x55#8, 0xAA#8, 3#8, 2#8, 0#8, 0#8] = 0xDB85#16 := by decide +kernel
  have h40 : crcStream 0xDB85#16 (List.replicate 40 0#8) = 0x587B#16 := by decide +kernel
  have h80 : crcStream 0x587B#16 (List.replicate 40 0#8) = 0x0866#16 := by decide +kernel
  have h120 : crcStream 0x0866#16 (List.replicate 40 0#8) = 0x4927#16 := by decide +kernel
  have h160 : crcStream 0x4927#16 (List.replicate 40 0#8) = 0xCAE5#16 := by decide +kernel
  have h200 : crcStream 0xCAE5#16 (List.replicate 40 0#8) = 0x0A68#16 := by decide +kernel
  have h240 : crcStream 0x0A68#16 (List.replicate 40 0#8) = 0xB3BD#16 := by decide +kernel
  rw [crc16, crcStream_append, hhead, crcStream_replicate_add _ _ 200 40, crcStream_replicate_add _ _ 160 40,
    crcStream_replicate_add _ _ 120 40, crcStream_replicate_add _ _ 80 40, crcStream_replicate_add _ _ 40 40,
    h40, h80, h120, h160, h200, h240]

/-- The validator on bytes and a trailer: it passes on the bytes' own CRC alone (R107). -/
theorem crcValid_append {m : List Byte} (hm : m.length = 248) (v : U16) :
    crcValid (m ++ bytesLE16 v) = decide (crc16 m = v) := by
  have htrailer : u16At (m ++ bytesLE16 v) 248 = v := by
    simp [u16At, byteAt, List.getD_eq_getElem?_getD, hm, bytesLE16]
  rw [crcValid, htrailer, List.take_left' hm, beq_eq_decide]

/-- Settles O11: the comparison, what DECODE makes of it, and the example with its trailer in either byte order. -/
theorem validatorComparesAllSixteenBits : Obligations.ValidatorComparesAllSixteenBits := by
  have hlen : ([0x5A#8, 0xA5#8, 0x55#8, 0xAA#8, 3#8, 2#8, 0#8, 0#8] ++ List.replicate 240 0#8).length = 248 := by
    rw [List.length_append, List.length_replicate]; rfl
  have hvalid (v : U16) := crcValid_append hlen v
  rw [crc16_example] at hvalid
  exact ⟨fun f s hl => ⟨(crcValid_iff f).trans (eq_u16At_iff _ f 248),
    fun hhead => exec_decode_checksumMismatch_iff hl (headerOf_of_take hhead) s⟩, hvalid 0xB3BD#16, hvalid 0xBDB3#16⟩

end Sys2Proof.Machine
end

section
/-! The Frame Codec's operations ENCODE and DECODE (O8, O9, O10, O12, O13). The frame ENCODE builds is a frame image whose
trailer is its own CRC, so the fields of a frame image, read back at their offsets, are what DECODE returns of it; and a frame
that DECODE accepts is the image of its fields, which ENCODE builds again where it would have written the same padding. -/

namespace Sys2Proof.Machine

/-! Fields as bytes (R71, R75, R82) -/

/-- le32 is `b[0] + 256*b[1] + 65536*b[2] + 16777216*b[3]` (R10). -/
theorem le32_toNat (b0 b1 b2 b3 : Byte) :
    (le32 b0 b1 b2 b3).toNat = b0.toNat + 256 * b1.toNat + 65536 * b2.toNat + 16777216 * b3.toNat := by
  rw [le32, BitVec.toNat_append, BitVec.toNat_append, BitVec.toNat_append,
    ← Nat.shiftLeft_add_eq_or_of_lt b2.isLt, ← Nat.shiftLeft_add_eq_or_of_lt b1.isLt,
    ← Nat.shiftLeft_add_eq_or_of_lt b0.isLt]
  omega

/-- A byte string has the header exactly when it opens with the header's four bytes, the low one first (R71). -/
theorem headerOf_eq_magic_iff {w : List Byte} (h : 4 ≤ w.length) :
    headerOf w = Config.magic ↔ w.take 4 = [0x5A#8, 0xA5#8, 0x55#8, 0xAA#8] := by
  refine ⟨fun hm => ?_, headerOf_of_take⟩
  rw [← bytesLE32_headerOf h, hm]
  decide

/-- A byte of the payload field stands 8 bytes further on in the frame (R70). -/
theorem byteAt_payloadField (w : List Byte) {i : Nat} (h : i < 240) : byteAt (payloadField w) i = byteAt w (8 + i) := by
  simp [byteAt, payloadField, List.getD_eq_getElem?_getD, List.getElem?_take_of_lt h]

/-- The padded payload opens with the body (R75). -/
theorem byteAt_padBody_of_lt {body : List Byte} {i : Nat} (h : i < body.length) :
    byteAt (padBody body) i = byteAt body i := List.getD_append _ _ _ _ h

/-- The padded payload is zero from the end of the body on (R75). -/
theorem byteAt_padBody_of_le {body : List Byte} {i : Nat} (h : body.length ≤ i) : byteAt (padBody body) i = 0 := by
  rw [byteAt, padBody, List.getD_append_right _ _ _ _ h, List.getD_eq_getElem?_getD, List.getElem?_replicate]
  split <;> rfl

/-- Padding puts back the zeros that were cut off (R75). -/
theorem padBody_take {p : List Byte} {n : Nat} (hp : p.length = 240) (hn : n ≤ 240)
    (hz : ∀ i, n ≤ i → i < 240 → byteAt p i = 0) : padBody (p.take n) = p := by
  have hlen : (p.take n).length = n := by rw [List.length_take, hp, Nat.min_eq_left hn]
  have hrest : p.drop n = List.replicate (240 - n) 0 := by
    refine List.eq_replicate_iff.mpr ⟨by rw [List.length_drop, hp], fun b hb => ?_⟩
    obtain ⟨j, hj, rfl⟩ := List.mem_iff_getElem.mp hb
    rw [List.length_drop, hp] at hj
    rw [List.getElem_drop, ← hz (n + j) (by omega) (by omega), byteAt, List.getD_eq_getElem]
  rw [padBody, hlen, ← hrest, List.take_append_drop]

theorem payloadField_length {w : List Byte} (h : w.length = 250) : (payloadField w).length = 240 := by
  simp [payloadField, h, Config.chunk]

/-! The frame ENCODE builds (R121, R122) -/

/-- The frame ENCODE builds is the image of its fields, the body padded, with the CRC of the covered bytes as its trailer. -/
theorem encodeFrame_eq_frameImage (c : Byte) (q : U16) (body : List Byte) :
    encodeFrame c q body = frameImage c q (lengthByte body) (padBody body) (crc16 (coveredBytes c q body)) := rfl

theorem encodeFrame_take (c : Byte) (q : U16) {body : List Byte} (h : body.length ≤ 240) :
    (encodeFrame c q body).take 248 = coveredBytes c q body := List.take_left' (coveredBytes_length c q h)

/-- The length byte is the number of body bytes, which a byte can hold (R73). -/
theorem lengthByte_toNat {body : List Byte} (h : body.length ≤ 240) : (lengthByte body).toNat = body.length := by
  rw [lengthByte, BitVec.toNat_ofNat, Nat.mod_eq_of_lt (by omega)]

/-- The fields of a frame image are those it was put together from (R82, R125). -/
theorem frameOf_frameImage (c : Byte) (q : U16) (l : Byte) {p : List Byte} (r : U16) (h : p.length = 240) :
    frameOf (frameImage c q l p r)
      = { header := Config.magic, command := c, sequence := q, length := l, payload := p, crc := r } := by
  obtain ⟨hheader, hcommand, hsequence, hlength⟩ := frameImage_fields c q l p r
  obtain ⟨hpayload, hcrc⟩ := frameImage_tail c q l r h
  rw [frameOf, hheader, hcommand, hsequence, hlength, hpayload, hcrc]

/-- The fields of the frame ENCODE builds (R75, R76, R121). -/
theorem frameOf_encodeFrame (c : Byte) (q : U16) {body : List Byte} (h : body.length ≤ 240) :
    frameOf (encodeFrame c q body)
      = { header := Config.magic, command := c, sequence := q, length := lengthByte body, payload := padBody body,
          crc := crc16 (coveredBytes c q body) } :=
  frameOf_frameImage c q _ _ (padBody_length h)

/-- The trailer of the frame ENCODE builds is the CRC of what precedes it (R76). -/
theorem crc16_take_encodeFrame (c : Byte) (q : U16) {body : List Byte} (h : body.length ≤ 240) :
    crc16 ((encodeFrame c q body).take 248) = u16At (encodeFrame c q body) 248 := by
  rw [encodeFrame_take c q h, encodeFrame_eq_frameImage, (frameImage_tail c q _ _ (padBody_length h)).2]

/-- A frame with the header that passes the validator, and whose padding is zero, is the one ENCODE builds of its fields
(R126). -/
theorem encodeFrame_of_fields {w : List Byte} (hl : w.length = 250) (hm : headerOf w = Config.magic)
    (hcrc : crc16 (w.take 248) = u16At w 248) (hn : (byteAt w 7).toNat ≤ 240)
    (hz : ∀ i, (byteAt w 7).toNat ≤ i → i < 240 → byteAt (payloadField w) i = 0) :
    encodeFrame (byteAt w 4) (u16At w 5) ((payloadField w).take (byteAt w 7).toNat) = w := by
  have hp : (payloadField w).length = 240 := payloadField_length hl
  have hlen : lengthByte ((payloadField w).take (byteAt w 7).toNat) = byteAt w 7 := by
    rw [lengthByte, List.length_take, hp, Nat.min_eq_left hn, BitVec.ofNat_toNat, BitVec.setWidth_eq]
  have himage := frameImage_of_fields hl hm
  have hcov : coveredBytes (byteAt w 4) (u16At w 5) ((payloadField w).take (byteAt w 7).toNat) = w.take 248 := by
    rw [coveredBytes, hlen, padBody_take hp hn hz, ← congrArg (List.take 248) himage, frameImage,
      List.take_left' (by rw [frameCovered_length, hp])]
  rw [encodeFrame_eq_frameImage, hcov, hcrc, hlen, padBody_take hp hn hz, himage]

/-! ENCODE (R121, R201, R212) -/

theorem isCommand_iff (c : Byte) : isCommand c = true ↔ 1 ≤ c.toNat ∧ c.toNat ≤ 5 := decide_eq_true_iff

/-- ENCODE of one of the five commands and a body a frame can carry answers the frame (R121). -/
theorem exec_encode {c : Byte} (hc : isCommand c = true) (q : U16) {body : List Byte} (h : body.length ≤ 240) (s : State) :
    exec (.encode c q body) s = .next { s with answer := .bytes (encodeFrame c q body) } := by
  show execEncode c q body s = _
  rw [execEncode, if_pos hc, if_neg (Nat.not_lt.mpr h), State.returning]

/-- ENCODE of one of the five commands and a longer body answers PayloadTooLarge (R201). -/
theorem exec_encode_tooLarge {c : Byte} (hc : isCommand c = true) (q : U16) {body : List Byte} (h : 240 < body.length)
    (s : State) : exec (.encode c q body) s = .next { s with answer := .error (.payloadTooLarge body.length) } := by
  show execEncode c q body s = _
  rw [execEncode, if_pos hc, if_pos h, State.returning]

/-- ENCODE of any other command is refused, before the body is looked at (R121, R212). -/
theorem exec_encode_refused {c : Byte} (hc : ¬ isCommand c = true) (q : U16) (body : List Byte) (s : State) :
    exec (.encode c q body) s = .refused (.commandOutsideEnum c) := by
  show execEncode c q body s = _
  rw [execEncode, if_neg hc]

/-- Settles O8: the frame's fields at their offsets, and the residue of its trailer. -/
theorem encodeBuildsTheFrame : Obligations.EncodeBuildsTheFrame := by
  intro c q body s h1 h5 hbody
  have hlen := encodeFrame_length c q hbody
  obtain ⟨hheader, hcommand, hsequence, hlength⟩ :=
    frameImage_fields c q (lengthByte body) (padBody body) (crc16 (coveredBytes c q body))
  rw [← encodeFrame_eq_frameImage] at hheader hcommand hsequence hlength
  have hpayload : payloadField (encodeFrame c q body) = padBody body :=
    (frameImage_tail c q (lengthByte body) _ (padBody_length hbody)).1
  have hcrc := crc16_take_encodeFrame c q hbody
  refine ⟨encodeFrame c q body, exec_encode ((isCommand_iff c).mpr ⟨h1, h5⟩) q hbody s, hlen,
    (headerOf_eq_magic_iff (by omega)).mp hheader, hcommand, ((eq_u16At_iff q _ 5).mp hsequence.symm).symm, ?length,
    fun i hi => ?content, fun i hi h240 => ?padding, ((eq_u16At_iff _ _ 248).mp hcrc).symm, (crc16_eq_zero_iff hlen).mpr hcrc⟩
  case length => rw [hlength, lengthByte_toNat hbody]
  case content => rw [← byteAt_payloadField _ (hi.trans_le hbody), hpayload, byteAt_padBody_of_lt hi]
  case padding => rw [← byteAt_payloadField _ h240, hpayload, byteAt_padBody_of_le hi]

/-- Settles O9: the two ways out of ENCODE's domain, the command tested first. -/
theorem encodeOutsideItsDomain : Obligations.EncodeOutsideItsDomain := fun c q body s =>
  ⟨fun ⟨h1, h5, hbody⟩ => exec_encode_tooLarge ((isCommand_iff c).mpr ⟨h1, h5⟩) q hbody s,
    fun hc => exec_encode_refused (mt (isCommand_iff c).mp hc) q body s⟩

/-! DECODE (R125, R212) -/

section
variable {w : List Byte}

/-- DECODE of a string of another size reports the size (R125). -/
theorem exec_decode_badSize (hl : w.length ≠ 250) (s : State) :
    exec (.decode w) s = .next { s with answer := .error (.badSize w.length) } := by
  show execDecode w s = _
  rw [execDecode, decodeFrame, if_neg hl]
  rfl

/-- DECODE of 250 bytes with another header reports the header (R125). -/
theorem exec_decode_badHeader (hl : w.length = 250) (hm : headerOf w ≠ Config.magic) (s : State) :
    exec (.decode w) s = .next { s with answer := .error (.badHeader (headerOf w)) } := by
  show execDecode w s = _
  rw [execDecode, decodeFrame, if_pos hl, if_neg hm]
  rfl

/-- DECODE of 250 bytes with the header and another trailer reports both checksums (R125). -/
theorem exec_decode_checksumMismatch (hl : w.length = 250) (hm : headerOf w = Config.magic)
    (hc : crc16 (w.take 248) ≠ u16At w 248) (s : State) :
    exec (.decode w) s
      = .next { s with answer := .error (.checksumMismatch (crc16 (w.take 248)) (u16At w 248)) } := by
  show execDecode w s = _
  rw [execDecode_of_header hl hm, if_neg (mt (crcValid_iff w).mp hc), State.returning]

/-- DECODE of a string that passes the three checks answers its fields (R125). -/
theorem exec_decode_frame (hl : w.length = 250) (hm : headerOf w = Config.magic)
    (hc : crc16 (w.take 248) = u16At w 248) (s : State) :
    exec (.decode w) s = .next { s with answer := .frame (frameOf w) } := by
  show execDecode w s = _
  rw [execDecode_of_header hl hm, if_pos ((crcValid_iff w).mpr hc), State.returning]

/-- What DECODE answers a Frame of passes the three checks, and the Frame is its fields (R125). -/
theorem exec_decode_frame_inv {f : Frame} {s : State} (h : exec (.decode w) s = .next { s with answer := .frame f }) :
    w.length = 250 ∧ headerOf w = Config.magic ∧ crc16 (w.take 248) = u16At w 248 ∧ f = frameOf w := by
  have answer_eq {a : Returned} (ha : exec (.decode w) s = .next { s with answer := a }) : a = .frame f :=
    congrArg State.answer (Host.Outcome.next.inj (ha.symm.trans h))
  by_cases hl : w.length = 250
  case neg => exact nomatch answer_eq (exec_decode_badSize hl s)
  by_cases hm : headerOf w = Config.magic
  case neg => exact nomatch answer_eq (exec_decode_badHeader hl hm s)
  by_cases hc : crc16 (w.take 248) = u16At w 248
  case neg => exact nomatch answer_eq (exec_decode_checksumMismatch hl hm hc s)
  exact ⟨hl, hm, hc, (Returned.frame.inj (answer_eq (exec_decode_frame hl hm hc s))).symm⟩

end

/-- Settles O10: the three checks in their order, with the header and the trailer read as numbers. -/
theorem decodeReportsTheFirstFailingCheck : Obligations.DecodeReportsTheFirstFailingCheck := by
  intro w s
  refine ⟨fun hl => exec_decode_badSize hl s, fun hl hhead => ?header, fun hl hhead => ?checksum⟩
  case header =>
    have hm : headerOf w ≠ Config.magic := mt (headerOf_eq_magic_iff (by omega)).mp hhead
    exact ⟨headerOf w, exec_decode_badHeader hl hm s, le32_toNat _ _ _ _⟩
  case checksum =>
    have hm : headerOf w = Config.magic := headerOf_of_take hhead
    have hframe : frameOf w =
        { header := 0xAA55A55A#32, command := byteAt w 4, sequence := u16At w 5, length := byteAt w 7,
          payload := (w.drop 8).take 240, crc := u16At w 248 } := by
      rw [frameOf, hm, payloadField]
    exact ⟨u16At w 248, u16At w 5, le16_toNat _ _, le16_toNat _ _, fun hc => exec_decode_checksumMismatch hl hm hc s,
      fun hc => hframe ▸ exec_decode_frame hl hm hc s⟩

/-! The two round trips (R126) -/

/-- Settles O12: the frame ENCODE builds passes the three checks, and its fields are those it was built of. -/
theorem decodeOfEncodedFrameRestoresFields : Obligations.DecodeOfEncodedFrameRestoresFields := by
  intro c q body s h1 h5 hbody
  have hheader : headerOf (encodeFrame c q body) = Config.magic := congrArg Frame.header (frameOf_encodeFrame c q hbody)
  have hdecode := exec_decode_frame (encodeFrame_length c q hbody) hheader (crc16_take_encodeFrame c q hbody) s
  rw [frameOf_encodeFrame c q hbody, ← encodeFrame_take c q hbody] at hdecode
  exact ⟨encodeFrame c q body, exec_encode ((isCommand_iff c).mpr ⟨h1, h5⟩) q hbody s, hdecode⟩

/-- Settles O13: what DECODE accepts is the image of its fields, and the padding ENCODE writes is the zeros it had. -/
theorem encodeOfCanonicalFrameRestoresBytes : Obligations.EncodeOfCanonicalFrameRestoresBytes := by
  intro w f s hdecode h1 h5 hn hz
  obtain ⟨hl, hm, hc, rfl⟩ := exec_decode_frame_inv hdecode
  have hbody : ((frameOf w).payload.take (frameOf w).length.toNat).length ≤ 240 := (List.length_take_le _ _).trans hn
  have hframe : encodeFrame (frameOf w).command (frameOf w).sequence
      ((frameOf w).payload.take (frameOf w).length.toNat) = w := encodeFrame_of_fields hl hm hc hn hz
  rw [exec_encode ((isCommand_iff _).mpr ⟨h1, h5⟩) _ hbody, hframe]

end Sys2Proof.Machine
end

section
/-! The sequencer's steps as operations (O22 to O25, O27 to O29, O36 to O39): what the head of a reply says, which
operation needs an awaiting state, and what POLL, EMIT, TICK, ATTEMPT_FAILED and FAIL write. -/

namespace Sys2Proof.Machine

/-! The head of a reply (R142) -/

/-- The header and the command byte of a reply are its first five bytes (R81, R82). -/
theorem replyHead_iff {b : List Byte} (h : 5 ≤ b.length) (c : Byte) :
    headerOf b = Config.magic ∧ byteAt b 4 = c ↔ b.take 5 = [0x5A#8, 0xA5#8, 0x55#8, 0xAA#8, c] := by
  have hlen : (b.take 4).length = 4 := List.length_take_of_le (by omega)
  have hsplit : b.take 5 = b.take 4 ++ [byteAt b 4] := by rw [byteAt_singleton (by omega), ← List.take_add]
  rw [headerOf_eq_magic_iff (by omega), hsplit]
  constructor
  · rintro ⟨hhead, rfl⟩
    rw [hhead]
    rfl
  · intro happ
    obtain ⟨hhead, hcommand⟩ := List.append_inj (s₂ := [0x5A#8, 0xA5#8, 0x55#8, 0xAA#8]) (t₂ := [c]) happ hlen
    exact ⟨hhead, List.singleton_inj.mp hcommand⟩

/-- What PARSE_PREFIX takes for the awaited ACK. -/
theorem prefixOf_eq_ack_iff {b : List Byte} {q : U16} :
    prefixOf b q = .ack ↔ (headerOf b = Config.magic ∧ byteAt b 4 = cmdAck) ∧ q = u16At b 5 := by
  rw [prefixOf, and_assoc, eq_comm (a := q)]
  split_ifs with hack
  · exact iff_of_true rfl hack
  · exact iff_of_false nofun hack
  · exact iff_of_false nofun hack

/-- What PARSE_PREFIX takes for a NACK, whatever sequence is awaited. -/
theorem prefixOf_eq_nack_iff {b : List Byte} {q got : U16} :
    prefixOf b q = .nack got ↔ (headerOf b = Config.magic ∧ byteAt b 4 = cmdNack) ∧ got = u16At b 5 := by
  rw [prefixOf]
  split_ifs with hack hnack
  · refine iff_of_false nofun ?_
    rintro ⟨⟨-, hnack⟩, -⟩
    exact absurd (hack.2.1.symm.trans hnack) (by decide)
  · simp [hnack, eq_comm]
  · exact iff_of_false nofun fun h => hnack h.1

/-- An ACK for another sequence than the awaited one is other content (R154). -/
theorem prefixOf_stale_ack {b : List Byte} {q : U16} (hc : byteAt b 4 = cmdAck) (hq : q ≠ u16At b 5) :
    prefixOf b q = .other := by
  rw [prefixOf, if_neg fun h => hq h.2.2.symm, if_neg fun h => absurd (hc.symm.trans h.2) (by decide)]

/-- Settles O22: the two replies by their first five bytes and their sequence, read as a number. -/
theorem parsePrefixExaminesSevenBytes : Obligations.ParsePrefixExaminesSevenBytes := by
  intro b q s
  refine ⟨fun h7 => ⟨prefixOf b q, if_pos h7, ?ack, fun got => ?nack⟩, fun h => if_neg (Nat.not_le.mpr h)⟩
  case ack =>
    rw [prefixOf_eq_ack_iff, replyHead_iff (by omega), eq_u16At_iff, eq_comm (a := q.toNat)]
    rfl
  case nack =>
    rw [prefixOf_eq_nack_iff, replyHead_iff (by omega), eq_u16At_iff, eq_comm (a := got.toNat)]
    rfl

/-! The operations that need an awaiting state (R141, assumption log 10) -/

theorem Fsm.stage?_eq_none {f : Fsm} : f.stage? = none ↔ f.busy = false := by
  cases f <;> simp [Fsm.busy, Fsm.stage?]

section
variable {s : State}

theorem whileAwaiting_busy {op : State → Result} (h : s.fsm.busy = true) : whileAwaiting op s = op s := if_pos h

theorem whileAwaiting_resting {op : State → Result} (h : s.fsm.busy = false) :
    whileAwaiting op s = .refused (.notAwaiting s.fsm) := if_neg (Bool.not_eq_true _ ▸ h)

theorem onAckWith_resting {p : State → Result} (h : s.fsm.busy = false) :
    onAckWith p s = .refused (.notAwaiting s.fsm) := by
  cases hf : s.fsm <;> simp_all [onAckWith, Fsm.busy, Fsm.stage?]

theorem attemptFailedWith_resting {p : State → Result} {cause : FailCause} (h : s.fsm.busy = false) :
    attemptFailedWith p cause s = .refused (.notAwaiting s.fsm) := by
  rw [attemptFailedWith, Fsm.stage?_eq_none.mpr h]

theorem exec_fail_resting {cause : FailCause} (h : s.fsm.busy = false) :
    exec (.fail cause) s = .refused (.notAwaiting s.fsm) := by
  show execFail cause s = _
  rw [execFail, Fsm.stage?_eq_none.mpr h]

/-- FAIL is the failure entry of the stage whose wait is running (R149). -/
theorem exec_fail {st : Stage} (h : s.fsm = st.fsm) (cause : FailCause) :
    exec (.fail cause) s = .next (s.enterFailed st cause) := by
  show execFail cause s = _
  rw [execFail, Fsm.stage?_eq_some.mpr h]

theorem exec_poll (h : s.fsm.busy = true) : exec .poll s = poll s := whileAwaiting_busy h

theorem exec_emit (h : s.fsm.busy = true) : exec .emit s = emit s := whileAwaiting_busy h

theorem exec_waitForAck (h : s.fsm.busy = true) : exec .waitForAck s = waitForAck s := whileAwaiting_busy h

theorem exec_onAck (s : State) : exec .onAck s = onAckWith poll s := rfl

theorem exec_sendConfirm (cause : FailCause) (s : State) : exec (.sendConfirm cause) s = attemptFailed cause s := rfl

theorem exec_tick (s : State) : exec .tick s = tick s := rfl

end

/-- Settles O39: each operation by its own test of the state. -/
theorem sequencerStepsNeedAnAwaitingState : Obligations.SequencerStepsNeedAnAwaitingState := fun _ _ h =>
  ⟨whileAwaiting_resting h, whileAwaiting_resting h, whileAwaiting_resting h, onAckWith_resting h,
    attemptFailedWith_resting h, exec_fail_resting h⟩

/-! POLL (R143) -/

section
variable {s : State}

/-- A read of all that is there empties the FIFO (R55). -/
theorem State.rxDrop_all (s : State) : s.rxDrop s.rxFifo.length = { s with rxFifo := [] } := by
  rw [State.rxDrop, List.drop_length]

/-- A poll that reads the awaited ACK is ON_ACK of what the read leaves (R143, R147). -/
theorem poll_ack (h : 11 ≤ s.rxFifo.length) (hp : prefixOf s.rxFifo s.seq = .ack) :
    poll s = onAckWith poll { s with rxFifo := [], lastOutcome := some .ack } := by
  rw [poll_read h hp, State.rxDrop_all]
  exact onAckWith_congr (fun u hu => (poll_quiet (by simp [hu])).symm) rfl

/-- A poll that reads a NACK is ATTEMPT_FAILED of what the read leaves, both sequences logged (R143, R148, R153). -/
theorem poll_nack {got : U16} (h : 11 ≤ s.rxFifo.length) (hp : prefixOf s.rxFifo s.seq = .nack got) :
    poll s = attemptFailed .nack
      { s with rxFifo := [], outputs := s.outputs ++ [.logNack s.seq got], lastOutcome := some .nack } := by
  rw [poll_read h hp, State.rxDrop_all]
  exact attemptFailedWith_congr (fun u hu => (poll_quiet (by simp [hu])).symm) rfl _

/-- A poll that reads other content leaves the FIFO empty and everything else as it is (R143). -/
theorem poll_discards (h : 11 ≤ s.rxFifo.length) (hp : prefixOf s.rxFifo s.seq = .other) :
    poll s = .next { s with rxFifo := [] } := by
  rw [poll_other h hp, State.rxDrop_all]

end

/-- Settles O23: POLL below its threshold. -/
theorem pollBelowElevenBytesReadsNothing : Obligations.PollBelowElevenBytesReadsNothing := fun _ hb hr =>
  (exec_poll hb).trans (poll_quiet hr)

/-- Settles O24: a stale ACK is other content. -/
theorem pollDropsAckForAnotherSequence : Obligations.PollDropsAckForAnotherSequence := by
  intro s hb h11 hhead hseq
  obtain ⟨-, hc⟩ := (replyHead_iff (by omega) cmdAck).mpr hhead
  have hstale : s.seq ≠ u16At s.rxFifo 5 := fun he => hseq ((eq_u16At_iff _ _ 5).mp he).symm
  exact (exec_poll hb).trans (poll_discards h11 (prefixOf_stale_ack hc hstale))

/-- Settles O25: one reaction for each result of PARSE_PREFIX. -/
theorem pollReactsToTheFirstReply : Obligations.PollReactsToTheFirstReply := by
  intro s hb h11
  rw [exec_poll hb]
  refine ⟨fun hp => ?ack, fun got hp => ?nack, poll_discards h11⟩
  case ack => rw [exec_onAck, poll_ack h11 hp]
  case nack => rw [exec_sendConfirm, poll_nack h11 hp]

/-! EMIT and TICK (R144, R146) -/

/-- Settles O27: EMIT is a POLL of what it writes. -/
theorem emitSendsTxfThenPolls : Obligations.EmitSendsTxfThenPolls := by
  intro s hb
  rw [exec_emit hb]
  exact ⟨(emit_eq s).trans (exec_poll (s := s.txWrite.startWait) hb).symm, emit_quiet⟩

/-- Settles O28: the three branches of a tick. -/
theorem tickCountsOrTimesOut : Obligations.TickCountsOrTimesOut := by
  intro s
  refine ⟨tick_ignored, fun st hf hl => ?below, fun st hf hl => tick_at hf hl⟩
  case below =>
    have hbusy : s.countTick.fsm.busy = true := by rw [State.countTick_fsm, hf, Stage.busy_fsm]
    exact ⟨(tick_below hf hl).trans (exec_poll hbusy).symm, fun hr => (tick_below hf hl).trans (poll_quiet hr)⟩

/-! ATTEMPT_FAILED and FAIL (R148, R149) -/

/-- Settles O36: DATA is the stage with a budget. -/
theorem failedAttemptResendsTheSameFrame : Obligations.FailedAttemptResendsTheSameFrame := by
  intro s cause hf hr
  have hbusy : s.countRetry.fsm.busy = true := by rw [State.countRetry_fsm, hf]; rfl
  have hresend : attemptFailed cause s = emit s.countRetry := attemptFailedWith_retry (st := .data) hf hr
  exact ⟨hresend.trans (exec_emit hbusy).symm, fun hrx => hresend.trans (emit_quiet hrx)⟩

/-- Settles O37: both are the failure entry of the stage. -/
theorem failedAttemptWithoutBudgetFails : Obligations.FailedAttemptWithoutBudgetFails := fun _ _ cause hf hr =>
  (attemptFailedWith_fail hf hr).trans (exec_fail hf cause).symm

/-- Settles O38: the failure entry at each stage, and the error that a session in that state surfaces. -/
theorem failRecordsStageIndexAndCause : Obligations.FailRecordsStageIndexAndCause := by
  intro s cause
  refine ⟨fun h => exec_fail (st := .start) h cause, fun h => exec_fail (st := .data) h cause,
    fun h => exec_fail (st := .final) h cause, fun t ht => ?error⟩
  case error =>
    cases hst : s.fsm.stage? with
    | none => exact nomatch (exec_fail_resting (Fsm.stage?_eq_none.mp hst)).symm.trans ht
    | some st =>
      have hf : s.fsm = st.fsm := Fsm.stage?_eq_some.mp hst
      obtain rfl := Host.Outcome.next.inj ((exec_fail hf cause).symm.trans ht)
      exact ⟨st, rfl, hf⟩

/-! Two frames in one tick (R146, R212) -/

section
variable {s : State}

/-- Everything a timeout writes that ends in a resend (R146, R148): the outcome, the retry, the frame again, the clock. -/
theorem State.timeout_resent (s : State) :
    (s.noteOutcome .timeout).countRetry.txWrite.startWait =
      { s with
        retryCnt := s.retryCnt + 1, tickCnt := 0, lastOutcome := some .timeout,
        outputs := s.outputs ++ [.txFrame s.txf.toList] } := by
  apply State.ext
  all_goals simp

/-- An attempt with budget left that times out resends its frame, and the resend's poll sees what waits in the FIFO (R146,
R148). -/
theorem tick_resend {st : Stage} (hf : s.fsm = st.fsm) (hl : s.tickCnt.toNat + 1 = st.limit)
    (hr : s.retryCnt.toNat < st.budget) :
    tick s = poll
      { s with
        retryCnt := s.retryCnt + 1, tickCnt := 0, lastOutcome := some .timeout,
        outputs := s.outputs ++ [.txFrame s.txf.toList] } := by
  rw [tick_at hf hl, attemptFailed, attemptFailedWith_retry (s := s.noteOutcome .timeout) hf hr, emitWith,
    State.timeout_resent]

/-- A frame sent on an empty FIFO, as ENCODE builds it: the registers of its wait, its bytes in TXF and on the TX stream
(R123, R144). -/
theorem sendFrameWith_sent (st : Stage) (q : U16) {body : List Byte} (hb : body.length ≤ 240) (hr : s.rxFifo = []) :
    ∃ t f, sendFrameWith poll st q body s = .next t ∧
      (∀ u : State, exec (.encode st.command q body) u = .next { u with answer := .bytes f }) ∧
      t = { s with
        fsm := st.fsm, seq := q, curLen := lengthByte body, retryCnt := 0, tickCnt := 0, txf := t.txf, crc := t.crc,
        outputs := s.outputs ++ [.txFrame f] } ∧
      t.txf.toList = f := by
  refine ⟨_, encodeFrame st.command q body, sendFrame_quiet (by simp [hr]) st q body,
    execEncode_stage st q hb, ?_, State.launch_frame s st q hb⟩
  rw [State.launch_sent s st q hb]

/-- ON_ACK of the last chunk's frame, on an empty FIFO: the chunk is confirmed and the END frame goes out (R174, R175). -/
theorem onAck_data_last (hf : s.fsm = .awaitDataAck) (hr : s.rxFifo = []) (hlast : s.chunkIdx + 1 = s.totalPackets) :
    ∃ t f, onAckWith poll s = .next t ∧
      (∀ u : State, exec (.encode 3#8 (s.seq + 1) []) u = .next { u with answer := .bytes f }) ∧
      t = { s with
        fsm := .awaitEndAck, seq := s.seq + 1, chunkIdx := s.chunkIdx + 1,
        sentBytes := s.sentBytes + s.curLen.setWidth 24, curLen := 0, retryCnt := 0, tickCnt := 0, txf := t.txf,
        crc := t.crc, outputs := s.outputs ++ [.txFrame f] } ∧
      t.txf.toList = f := by
  rw [onAckWith_last hf hlast]
  exact sendFrameWith_sent (s := s.confirmChunk) .final (s.seq + 1) (body := []) (Nat.zero_le 240) hr

/-- ON_ACK of an earlier chunk's frame, on an empty FIFO: the chunk is confirmed and the next one goes out, read from
PAYLOAD (R173, R174). -/
theorem onAck_data_more (hf : s.fsm = .awaitDataAck) (hr : s.rxFifo = [])
    (hk : (s.chunkIdx + 1).toNat < s.totalPackets.toNat) (ho : 240 * (s.chunkIdx + 1).toNat < s.payloadLen.toNat) :
    ∃ t f chunk, onAckWith poll s = .next t ∧
      chunk.length = min 240 (s.payloadLen.toNat - 240 * (s.chunkIdx + 1).toNat) ∧
      (∀ i, i < chunk.length → s.payloadByte? (240 * (s.chunkIdx + 1).toNat + i) = some (byteAt chunk i)) ∧
      (∀ u : State, exec (.encode 2#8 (s.seq + 1) chunk) u = .next { u with answer := .bytes f }) ∧
      t = { s with
        fsm := .awaitDataAck, seq := s.seq + 1, chunkIdx := s.chunkIdx + 1,
        sentBytes := s.sentBytes + s.curLen.setWidth 24, curLen := lengthByte chunk, retryCnt := 0, tickCnt := 0,
        txf := t.txf, crc := t.crc, outputs := s.outputs ++ [.txFrame f] } ∧
      t.txf.toList = f := by
  have hlen := State.chunkBytes_length s (s.chunkIdx + 1).toNat
  have hmore : s.chunkIdx + 1 ≠ s.totalPackets := fun he => absurd hk (by rw [he]; exact lt_irrefl _)
  obtain ⟨t, f, hs, henc, ht, htxf⟩ := sendFrameWith_sent (s := s.confirmChunk) .data (s.seq + 1)
    (body := s.chunkBytes (s.chunkIdx + 1).toNat) (by omega) hr
  have hsend : onAckWith poll s = .next t := by
    rw [onAckWith_more hf hmore, sendDataWith_eq _ s.confirmChunk hk ho]
    exact hs
  exact ⟨t, f, _, hsend, hlen, State.chunkBytes_read s _, henc, ht, htxf⟩

end

/-- Settles O29: the resend, its poll's ACK, and the frame that follows. -/
theorem lateAckIsSeenByTheResend : Obligations.LateAckIsSeenByTheResend := by
  intro s hf hl hr h11 hp
  have hlimit : s.tickCnt.toNat + 1 = Stage.data.limit := by rw [hl]; rfl
  obtain ⟨u, hu, hacked⟩ : ∃ u : State,
      u = { s with
        retryCnt := s.retryCnt + 1, tickCnt := 0, rxFifo := [], lastOutcome := some .ack,
        outputs := s.outputs ++ [.txFrame s.txf.toList] } ∧
      tick s = onAckWith poll u := by
    rw [tick_resend (st := .data) hf hlimit hr, poll_ack (by exact h11) (by exact hp)]
    exact ⟨_, rfl, rfl⟩
  have hfu : u.fsm = .awaitDataAck := by rw [hu]; exact hf
  have hru : u.rxFifo = [] := by rw [hu]
  have hout : ∀ f, u.outputs ++ [Output.txFrame f] = s.outputs ++ [.txFrame s.txf.toList, .txFrame f] := fun f => by
    rw [hu, List.append_assoc]; rfl
  rw [exec_tick, hacked]
  refine ⟨fun hlast => ?last, fun hk ho => ?more⟩
  case last =>
    obtain ⟨t, f, hs, henc, ht, htxf⟩ := onAck_data_last hfu hru (by rw [hu]; exact hlast)
    rw [hout] at ht
    subst hu
    exact ⟨t, f, hs, henc s, ht, htxf⟩
  case more =>
    obtain ⟨t, f, chunk, hs, hlen, hread, henc, ht, htxf⟩ :=
      onAck_data_more hfu hru (by rw [hu]; exact hk) (by rw [hu]; exact ho)
    rw [hout] at ht
    subst hu
    refine ⟨t, f, chunk, hs, hlen, hread, henc s, ?_, htxf⟩
    rw [hf]
    exact ht

end Sys2Proof.Machine
end

section
/-! The ticks of a wait (O30 to O32, O59, O60): on a FIFO below the threshold every tick below the stage's limit only moves the
clock, so the limit is reached with nothing else changed. WAIT_FOR_ACK runs the ticks as one operation (assumption log 14), the
block one step at a time; what happens at the limit is the same. -/

namespace Sys2Proof.Machine

/-! The clock of a wait (R31, R141) -/

/-- The clock's register holds every count below a limit. -/
theorem clock_toNat {st : Stage} {n : Nat} (h : n < st.limit) : (BitVec.ofNat 8 n).toNat = n := by
  have hmax : st.limit ≤ 200 := by cases st <;> decide
  rw [BitVec.toNat_ofNat, Nat.mod_eq_of_lt (by omega)]

theorem clock_below {st : Stage} {n : Nat} (h : n + 1 < st.limit) : (BitVec.ofNat 8 n).toNat + 1 ≠ st.limit := by
  rw [clock_toNat (by omega : n < st.limit)]
  omega

theorem clock_at {st : Stage} {n : Nat} (h : n + 1 = st.limit) : (BitVec.ofNat 8 n).toNat + 1 = st.limit := by
  rw [clock_toNat (by omega : n < st.limit), h]

theorem State.countTick_clock (s : State) (n : Nat) :
    State.countTick { s with tickCnt := BitVec.ofNat 8 n } = { s with tickCnt := BitVec.ofNat 8 (n + 1) } := by
  rw [State.countTick, BitVec.ofNat_add]
  rfl

section
variable {s : State} {st : Stage}

/-- A tick below the limit that finds too few bytes moves the clock (R146). -/
theorem tick_quiet (hf : s.fsm = st.fsm) (hr : s.rxFifo.length < 11) (hl : s.tickCnt.toNat + 1 ≠ st.limit) :
    tick s = .next s.countTick := by
  rw [tick_below hf hl, poll_quiet (by exact hr)]

/-- A timeout with budget left and too few bytes is a resend and no more (R146, R148). -/
theorem tick_timeout_resends (hf : s.fsm = st.fsm) (hr : s.rxFifo.length < 11) (hl : s.tickCnt.toNat + 1 = st.limit)
    (hb : s.retryCnt.toNat < st.budget) :
    tick s = .next
      { s with
        retryCnt := s.retryCnt + 1, tickCnt := 0, lastOutcome := some .timeout,
        outputs := s.outputs ++ [.txFrame s.txf.toList] } := by
  rw [tick_resend hf hl hb, poll_quiet (by exact hr)]

/-- A timeout with the budget spent is the failure entry (R146, R148, R149). -/
theorem tick_timeout_fails (hf : s.fsm = st.fsm) (hl : s.tickCnt.toNat + 1 = st.limit)
    (hb : st.budget ≤ s.retryCnt.toNat) :
    tick s = .next
      { s with
        fsm := .failed, lastOutcome := some .timeout, failStage := some st,
        failIndex := if st = .data then s.seq else 0, failCause := some .timeout } := by
  rw [tick_at hf hl, attemptFailed, attemptFailedWith_fail (s := s.noteOutcome .timeout) hf hb]
  rfl

end

/-! WAIT_FOR_ACK (R145) -/

section
variable {s : State} {st : Stage} {n : Nat} {rest : List Event}

/-- Ticks below the limit are spent by the wait, and only the clock moves. -/
theorem waitOver_ticks (hf : s.fsm = st.fsm) (hr : s.rxFifo.length < 11) (hn : n < st.limit) :
    waitOver (List.replicate n .tick ++ rest) s.startWait = waitOver rest { s with tickCnt := BitVec.ofNat 8 n } := by
  induction n generalizing rest with
  | zero => rfl
  | succ n ih =>
    rw [List.replicate_succ', List.append_assoc, ih (by omega), List.singleton_append,
      waitOver_tick_quiet rest (by exact hf) (by exact hr) (by exact clock_below hn), State.countTick_clock]

/-- WAIT_FOR_ACK with ticks below the limit to come is what is left of it when they are spent. -/
theorem exec_waitForAck_ticks (hf : s.fsm = st.fsm) (hr : s.rxFifo.length < 11) (hn : n < st.limit)
    (hp : s.pending = List.replicate n .tick ++ rest) :
    exec .waitForAck s = waitOver rest { s with tickCnt := BitVec.ofNat 8 n } := by
  rw [exec_waitForAck (by rw [hf, Stage.busy_fsm]), waitForAck_quiet hr, ← waitOver_ticks hf hr hn, ← hp]

theorem waitOver_nil (s : State) : waitOver [] s = .next { s with pending := [], answer := .waited none } := rfl

theorem waitOver_rxArrive (b : List Byte) (s : State) : waitOver (.rxArrive b :: rest) s = waitOver rest (s.rxArrive b) := by
  rw [waitOver]

/-- The outcome of a poll that reads is that of the reply (R143). -/
theorem pollOutcome?_read (h : 11 ≤ s.rxFifo.length) : pollOutcome? s = (prefixOf s.rxFifo s.seq).outcome? := by
  rw [pollOutcome?, State.rxAvail_eq, if_neg (Nat.not_lt.mpr h), State.rxFront_all]

/-- A tick below the limit whose poll has an outcome ends the wait with it (R145, R146). -/
theorem waitOver_tick_found {o : WaitOutcome} (hf : s.fsm = st.fsm) (hl : s.tickCnt.toNat + 1 ≠ st.limit)
    (ho : pollOutcome? s = some o) :
    waitOver (.tick :: rest) s
      = andThen (poll { s with tickCnt := s.tickCnt + 1, pending := rest })
        fun t => .next { t with answer := .waited (some o) } := by
  have hn : tickOutcome? s = some o := by simp [tickOutcome?, hf, hl, ho]
  rw [waitOver, hn]
  simp only
  rw [tick_below (by exact hf) (by exact hl)]
  rfl

/-- A reply in the FIFO when the wait begins ends it at elapsed time 0 (R144, R145). -/
theorem exec_waitForAck_at_once {o : WaitOutcome} (hb : s.fsm.busy = true) (h11 : 11 ≤ s.rxFifo.length)
    (ho : (prefixOf s.rxFifo s.seq).outcome? = some o) :
    exec .waitForAck s
      = andThen (poll { s with tickCnt := 0 }) fun t => .next { t with answer := .waited (some o) } := by
  have hn : pollOutcome? s.startWait = some o := (pollOutcome?_read h11).trans ho
  rw [exec_waitForAck hb, waitForAck, hn]
  rfl

/-- A reply whose last bytes arrive after ticks below the limit ends the wait at the poll of the next tick (R145). -/
theorem exec_waitForAck_after_ticks {o : WaitOutcome} {b : List Byte} (hf : s.fsm = st.fsm) (hr : s.rxFifo.length < 11)
    (hn : n + 1 < st.limit) (h11 : 11 ≤ (s.rxFifo ++ b).length)
    (hp : s.pending = List.replicate n .tick ++ .rxArrive b :: .tick :: rest)
    (ho : (prefixOf (s.rxFifo ++ b) s.seq).outcome? = some o) :
    exec .waitForAck s
      = andThen
        (poll { s with rxFifo := s.rxFifo ++ b, tickCnt := BitVec.ofNat 8 (n + 1), pending := rest })
        fun t => .next { t with answer := .waited (some o) } := by
  have hread : pollOutcome? (State.rxArrive { s with tickCnt := BitVec.ofNat 8 n } b) = some o :=
    (pollOutcome?_read h11).trans ho
  rw [exec_waitForAck_ticks hf hr (by omega) hp, waitOver_rxArrive,
    waitOver_tick_found (by exact hf) (by exact clock_below hn) hread, BitVec.ofNat_add]
  rfl

end

/-- Settles O32: the wait is left with no event. -/
theorem waitWithoutTicksStaysRunning : Obligations.WaitWithoutTicksStaysRunning := by
  intro s st n hf hr hn hp
  rw [exec_waitForAck_ticks hf hr hn (rest := []) (by rw [hp, List.append_nil]), waitOver_nil]

/-- Settles O30: the last of the ticks is the limit's, and a resend or the failure entry follows. -/
theorem waitTimesOutAfterTheLimit : Obligations.WaitTimesOutAfterTheLimit := by
  intro s st rest hf hr hp
  obtain ⟨n, hn⟩ : ∃ n, st.limit = n + 1 := by cases st <;> exact ⟨_, rfl⟩
  rw [hn, List.replicate_succ', List.append_assoc] at hp
  have hclock := clock_at hn.symm
  rw [exec_waitForAck_ticks hf hr (by omega) hp, List.singleton_append,
    waitOver_tick_timeout rest (by exact hf) (by exact hclock)]
  by_cases hb : s.retryCnt.toNat < st.budget
  · rw [tick_timeout_resends (by exact hf) (by exact hr) (by exact hclock) (by exact hb)]
    exact ⟨_, rfl, rfl, rfl, rfl⟩
  · rw [tick_timeout_fails (by exact hf) (by exact hclock) (by exact Nat.le_of_not_lt hb)]
    exact ⟨_, rfl, rfl, rfl, rfl⟩

/-- Settles O31: the wait ends at its first poll or at the one after the reply, which reacts as any poll does. -/
theorem waitFindsTheAckAtTheNextPoll : Obligations.WaitFindsTheAckAtTheNextPoll := by
  refine ⟨fun s hb h11 => ⟨fun hp => ?ack, fun got hp => ?nack⟩, fun s st n b rest hf hr hn h11 hpend =>
    ⟨fun hp => ?ackLater, fun got hp => ?nackLater, fun hst hp => ?done⟩⟩
  case ack =>
    rw [exec_waitForAck_at_once hb h11 (by rw [hp]; rfl), poll_ack (by exact h11) (by exact hp), exec_onAck]
  case nack =>
    rw [exec_waitForAck_at_once hb h11 (by rw [hp]; rfl), poll_nack (by exact h11) (by exact hp), exec_sendConfirm]
  case ackLater =>
    rw [exec_waitForAck_after_ticks hf hr hn h11 hpend (by rw [hp]; rfl), poll_ack (by exact h11) (by exact hp), exec_onAck]
  case nackLater =>
    rw [exec_waitForAck_after_ticks hf hr hn h11 hpend (by rw [hp]; rfl), poll_nack (by exact h11) (by exact hp),
      exec_sendConfirm]
  case done =>
    subst hst
    rw [exec_waitForAck_after_ticks hf hr hn h11 hpend (by rw [hp]; rfl), poll_ack (by exact h11) (by exact hp),
      onAckWith_end (by exact hf)]
    rfl

end Sys2Proof.Machine
end

section
/-! A silent peer (O59, O60): the block's steps on the ticks of a wait, up to the timeout of each attempt (R155). -/

namespace Sys2Proof.Machine

/-! Steps in a row -/

theorem andThen_assoc (r : Result) (k k' : State → Result) :
    andThen (andThen r k) k' = andThen r fun s => andThen (k s) k' := by cases r <;> rfl

/-- Steps in a row may be cut anywhere. -/
theorem stepTimes_add (m n : Nat) (s : State) : stepTimes (m + n) s = andThen (stepTimes m s) (stepTimes n) := by
  induction m generalizing s with
  | zero => rw [Nat.zero_add]; rfl
  | succ m ih =>
    have hcut : stepTimes (m + n) = fun u => andThen (stepTimes m u) (stepTimes n) := funext ih
    rw [Nat.succ_add, stepTimes, stepTimes, hcut, andThen_assoc]

theorem stepTimes_one (s : State) : stepTimes 1 s = step s := by
  rw [stepTimes]
  cases step s <;> rfl

/-! The ticks of one attempt (R146) -/

section
variable {s : State} {st : Stage} {n : Nat} {rest : List Event}

/-- Ticks below the limit, from the emission on, only move the clock. -/
theorem stepTimes_quiet (hf : s.fsm = st.fsm) (h0 : s.tickCnt = 0) (hr : s.rxFifo.length < 11) (hn : n < st.limit)
    (hp : s.pending = List.replicate n .tick ++ rest) :
    stepTimes n s = .next { s with tickCnt := BitVec.ofNat 8 n, pending := rest } := by
  induction n generalizing rest with
  | zero =>
    obtain rfl : s.pending = rest := hp
    have hzero : s.tickCnt = BitVec.ofNat 8 0 := h0
    rw [stepTimes, ← hzero]
  | succ n ih =>
    rw [List.replicate_succ', List.append_assoc, List.singleton_append] at hp
    rw [stepTimes_add, ih (by omega) hp, andThen_next_left, stepTimes_one, step_tick rfl, exec_tick,
      tick_quiet (by exact hf) (by exact hr) (by exact clock_below hn)]
    exact congrArg Host.Outcome.next (State.countTick_clock { s with pending := rest } n)

/-- The tick of the limit is the one at which the attempt times out. -/
theorem stepTimes_limit (hf : s.fsm = st.fsm) (h0 : s.tickCnt = 0) (hr : s.rxFifo.length < 11) (hn : n + 1 = st.limit)
    (hp : s.pending = List.replicate (n + 1) .tick ++ rest) :
    stepTimes (n + 1) s = tick { s with tickCnt := BitVec.ofNat 8 n, pending := rest } := by
  rw [List.replicate_succ', List.append_assoc, List.singleton_append] at hp
  rw [stepTimes_add, stepTimes_quiet hf h0 hr (by omega) hp, andThen_next_left, stepTimes_one, step_tick rfl, exec_tick,
    State.taken]

end

/-- Settles O59: START has no budget, so its one attempt ends the session. -/
theorem silentPeerFailsStartAtTick200 : Obligations.SilentPeerFailsStartAtTick200 := by
  intro s rest hf h0 hr hp
  rw [stepTimes_limit (st := .start) (n := 199) hf h0 hr rfl hp,
    tick_timeout_fails (st := .start) (by exact hf) rfl (Nat.zero_le _)]
  rfl

/-! The attempts of a DATA frame (R148, R155) -/

/-- The state after `j` resends of a frame that is never acknowledged, its clock at zero. -/
def State.resent (s : State) (j : Nat) : State :=
  { s with
    tickCnt := 0, retryCnt := BitVec.ofNat 2 j, lastOutcome := if j = 0 then s.lastOutcome else some .timeout,
    outputs := s.outputs ++ List.replicate j (.txFrame s.txf.toList) }

section
variable {s : State} {j m : Nat} {rest : List Event}

theorem State.resent_zero (h0 : s.tickCnt = 0) (hc : s.retryCnt = 0) : s.resent 0 = s := by
  apply State.ext
  all_goals simp [State.resent, h0, hc]

/-- A whole wait of 100 ticks, up to its timeout. -/
theorem stepTimes_attempt (hf : s.fsm = .awaitDataAck) (hr : s.rxFifo.length < 11) :
    stepTimes 100 ((s.resent j).taken (List.replicate 100 .tick ++ rest))
      = tick { s.resent j with tickCnt := 99, pending := rest } :=
  stepTimes_limit (s := (s.resent j).taken _) (st := .data) (n := 99) hf rfl hr rfl rfl

/-- Within the budget of three, a whole wait of 100 ticks spends a retry and resends the frame. -/
theorem stepTimes_resend (hf : s.fsm = .awaitDataAck) (hr : s.rxFifo.length < 11) (hj : j < 3) :
    stepTimes 100 ((s.resent j).taken (List.replicate 100 .tick ++ rest)) = .next ((s.resent (j + 1)).taken rest) := by
  have hbudget : (BitVec.ofNat 2 j).toNat < Stage.data.budget := by
    rw [BitVec.toNat_ofNat, Nat.mod_eq_of_lt (by omega)]
    exact hj
  rw [stepTimes_attempt hf hr,
    tick_timeout_resends (st := .data) (by exact hf) (by exact hr) rfl (by exact hbudget)]
  congr 1
  apply State.ext
  all_goals simp [State.resent, BitVec.ofNat_add, List.replicate_succ']

/-- `j` waits in a row, each ended by a resend. -/
theorem stepTimes_resends (hf : s.fsm = .awaitDataAck) (h0 : s.tickCnt = 0) (hc : s.retryCnt = 0)
    (hr : s.rxFifo.length < 11) (hj : j ≤ 3) (hp : s.pending = List.replicate (100 * j) .tick ++ rest) :
    stepTimes (100 * j) s = .next ((s.resent j).taken rest) := by
  induction j generalizing rest with
  | zero =>
    obtain rfl : s.pending = rest := hp
    rw [State.resent_zero h0 hc]
    rfl
  | succ j ih =>
    rw [Nat.mul_succ, List.replicate_add, List.append_assoc] at hp
    rw [Nat.mul_succ, stepTimes_add, ih (by omega) hp, andThen_next_left, stepTimes_resend hf hr (by omega)]

/-- The state at every tick before the last wait's end (R155). -/
theorem stepTimes_unanswered (hf : s.fsm = .awaitDataAck) (h0 : s.tickCnt = 0) (hc : s.retryCnt = 0)
    (hr : s.rxFifo.length < 11) (hj : j ≤ 3) (hm : m < 100)
    (hp : s.pending = List.replicate (100 * j + m) .tick ++ rest) :
    stepTimes (100 * j + m) s = .next { s.resent j with tickCnt := BitVec.ofNat 8 m, pending := rest } := by
  rw [List.replicate_add, List.append_assoc] at hp
  rw [stepTimes_add, stepTimes_resends hf h0 hc hr hj hp, andThen_next_left]
  exact stepTimes_quiet (s := (s.resent j).taken _) (st := .data) hf rfl hr hm rfl

end

/-- Settles O60: the state at every tick, and the timeout that finds the budget spent. -/
theorem unansweredDataFailsAtTick400 : Obligations.UnansweredDataFailsAtTick400 := by
  intro s rest hf h0 hc hr hp
  refine ⟨fun j m hj hm => ?before, ?last⟩
  case before =>
    have hsplit : 400 = 100 * j + m + (400 - (100 * j + m)) := by omega
    rw [hsplit, List.replicate_add, List.append_assoc] at hp
    rw [stepTimes_unanswered hf h0 hc hr hj hm hp]
    rfl
  case last =>
    have hp' : s.pending = List.replicate (100 * 3) .tick ++ (List.replicate 100 .tick ++ rest) := by
      rw [hp, ← List.append_assoc, ← List.replicate_add]
    rw [show 400 = 100 * 3 + 100 from rfl, stepTimes_add, stepTimes_resends hf h0 hc hr le_rfl hp', andThen_next_left,
      stepTimes_attempt hf hr, tick_timeout_fails (st := .data) (by exact hf) rfl (by exact le_refl 3)]
    rfl

end Sys2Proof.Machine
end

section
/-! What a step emits and where it leads (O53, O55, O56). Each step of the sequencer is shown to emit at most one frame more
than the poll it ends with (R151), and to lead forward in the table of states if that poll does (R150). -/

namespace Sys2Proof.Machine

/-! Output events (R62, R151) -/

/-- From one state to another the output events are only appended to, by at most `n` frames. -/
def Emits (n : Nat) (s t : State) : Prop := ∃ new, t.outputs = s.outputs ++ new ∧ (framesOf new).length ≤ n

/-- A step of the sequencer only appends to the output events, and appends at most `n` frames. -/
def EmitsAtMost (n : Nat) (op : State → Result) : Prop := ∀ ⦃s t : State⦄, op s = .next t → Emits n s t

section
variable {m n : Nat} {s t u : State} {p : State → Result}

theorem Emits.of_outputs_eq (h : t.outputs = s.outputs) : Emits n s t := ⟨[], by simp [h], Nat.zero_le n⟩

theorem Emits.trans (h : Emits m s u) (h' : Emits n u t) : Emits (m + n) s t := by
  obtain ⟨new, hu, hm⟩ := h
  obtain ⟨new', ht, hn⟩ := h'
  refine ⟨new ++ new', by rw [ht, hu, List.append_assoc], ?_⟩
  rw [framesOf, List.filterMap_append, List.length_append]
  exact Nat.add_le_add hm hn

theorem Emits.mono (h : Emits m s t) (hmn : m ≤ n) : Emits n s t := by
  obtain ⟨new, hout, hm⟩ := h
  exact ⟨new, hout, hm.trans hmn⟩

/-- TXF goes out, and the clock starts (R53, R144). -/
theorem emits_txWrite_startWait (s : State) : Emits 1 s s.txWrite.startWait := ⟨_, s.txWrite_outputs, le_rfl⟩

/-- The NACK event is no frame (R153). -/
theorem emits_logNack (s : State) (q got : U16) : Emits 0 s (s.logNack q got) := ⟨_, s.logNack_outputs q got, le_rfl⟩

theorem emitsAtMost_next : EmitsAtMost 0 .next := fun _ _ h => by
  cases h
  exact .of_outputs_eq rfl

/-- EMIT (R144): one frame, and what its poll emits. -/
theorem EmitsAtMost.emit (hp : EmitsAtMost n p) : EmitsAtMost (1 + n) (emitWith p) := fun s _ h =>
  (emits_txWrite_startWait s).trans (hp h)

/-- Building a frame emits nothing; its EMIT does (R171, R173, R175). -/
theorem EmitsAtMost.sendFrame (hp : EmitsAtMost n p) (st : Stage) (q : U16) (body : List Byte) :
    EmitsAtMost (1 + n) (sendFrameWith p st q body) := fun s _ h => hp.emit (s := s.launch st q body) h

/-- SEND_DATA (R173). -/
theorem EmitsAtMost.sendData (hp : EmitsAtMost n p) (k : U16) : EmitsAtMost (1 + n) (sendDataWith p k) := by
  intro s t h
  obtain ⟨-, -, hsend⟩ := sendDataWith_next h
  exact hp.sendFrame _ _ _ hsend

/-- SEND_END (R175). -/
theorem EmitsAtMost.sendEnd (hp : EmitsAtMost n p) : EmitsAtMost (1 + n) (sendEndWith p) := fun _ _ h =>
  hp.sendFrame _ _ _ h

/-- ON_ACK (R147): the next frame, or none. -/
theorem EmitsAtMost.onAck (hp : EmitsAtMost n p) : EmitsAtMost (1 + n) (onAckWith p) := by
  intro s t h
  rcases onAckWith_next h with ⟨-, -, hs⟩ | ⟨-, -, hs⟩ | ⟨-, -, hs⟩ | ⟨-, -, hs⟩ | ⟨-, rfl⟩
  · exact hp.sendEnd hs
  · exact hp.sendData _ hs
  · exact hp.sendEnd (s := s.confirmChunk) hs
  · exact hp.sendData _ (s := s.confirmChunk) hs
  · exact .of_outputs_eq rfl

/-- ATTEMPT_FAILED (R148): the frame again, or none. -/
theorem EmitsAtMost.attemptFailed (hp : EmitsAtMost n p) (cause : FailCause) :
    EmitsAtMost (1 + n) (attemptFailedWith p cause) := by
  intro s t h
  obtain ⟨st, -, ⟨-, hs⟩ | ⟨-, rfl⟩⟩ := attemptFailedWith_next h
  · exact hp.emit (s := s.countRetry) hs
  · exact .of_outputs_eq rfl

/-- The reaction to a reply (R143): an event that is no frame, at most, before what it leads to. -/
theorem EmitsAtMost.react (hp : EmitsAtMost n p) (r : PrefixResult) : EmitsAtMost (1 + n) (reactWith p r) := by
  intro s t h
  rcases reactWith_next h with ⟨-, hs⟩ | ⟨got, -, hs⟩ | ⟨-, rfl⟩
  · exact hp.onAck (s := s.noteOutcome .ack) hs
  · have hfailed := hp.attemptFailed .nack (s := (s.logNack s.seq got).noteOutcome .nack) hs
    exact ((emits_logNack s s.seq got).trans hfailed).mono (Nat.zero_add _).le
  · exact .of_outputs_eq rfl

end

/-- POLL (R151): one reaction, whose own poll emits nothing. -/
theorem emitsAtMost_poll : EmitsAtMost 1 poll := by
  intro s t h
  rcases poll_next h with ⟨-, rfl⟩ | ⟨-, hs⟩
  · exact .of_outputs_eq rfl
  · exact emitsAtMost_next.react _ (s := s.rxDrop s.rxFifo.length) hs

/-- TICK (R146): a resend and what its poll emits, at most. -/
theorem emitsAtMost_tick : EmitsAtMost 2 tick := by
  intro s t h
  obtain ⟨-, rfl⟩ | ⟨st, -, ⟨-, hs⟩ | ⟨-, hs⟩⟩ := tick_next h
  · exact .of_outputs_eq rfl
  · exact emitsAtMost_poll.attemptFailed _ (s := s.noteOutcome .timeout) hs
  · exact (emitsAtMost_poll (s := s.countTick) hs).mono one_le_two

/-- SEND_IMAGE (R171): the START frame and what its poll emits, at most. -/
theorem emitsAtMost_sendImage (id : U16) (n : Nat) (cells : List Host.Cell) :
    EmitsAtMost 2 (execSendImage id n cells) := by
  intro s t h
  rcases execSendImage_next h with ⟨-, a, rfl⟩ | ⟨-, -, hs⟩
  · exact .of_outputs_eq rfl
  · exact emitsAtMost_poll.sendFrame _ _ _ (s := (s.beginSession id n cells).returning .accepted) hs

/-- Settles O53, by the event that the step presents: only a tick and an accepted SEND_IMAGE emit. -/
theorem oneStepEmitsAtMostTwoFrames : Obligations.OneStepEmitsAtMostTwoFrames := by
  intro s t h
  show Emits 2 s t
  rcases step_cases h with ⟨-, rfl⟩ | ⟨e, rest, -, hcase⟩
  · exact .of_outputs_eq rfl
  · rcases hcase with ⟨r, a, -, -, rfl⟩ | ⟨r, -, -, hs⟩ | ⟨-, hs⟩ | ⟨b, c, -, hs⟩ | ⟨b, -, rfl⟩ | ⟨-, rfl⟩
    · exact .of_outputs_eq rfl
    · exact emitsAtMost_sendImage _ _ _ (s := s.taken rest) hs
    · exact emitsAtMost_tick (s := s.taken rest) hs
    · exact emitsAtMost_tick (s := (s.taken rest).rxArrive c) hs
    · exact .of_outputs_eq rfl
    · exact .of_outputs_eq rfl

/-! The resting states (R150) -/

/-- Settles O55, by the event that the step presents: a tick outside an awaiting state is ignored. -/
theorem restingStatesAreLeftOnlyByANewSession : Obligations.RestingStatesAreLeftOnlyByANewSession := by
  intro s t h hrest hleft
  rcases step_cases h with ⟨-, rfl⟩ | ⟨e, rest, hp, hcase⟩
  · exact absurd rfl hleft
  · rcases hcase with ⟨r, a, -, -, rfl⟩ | ⟨r, rfl, hop, hs⟩ | ⟨-, hs⟩ | ⟨b, c, -, hs⟩ | ⟨b, -, rfl⟩ | ⟨rfl, -⟩
    · exact absurd rfl hleft
    · rcases execSendImage_next hs with ⟨-, a, rfl⟩ | ⟨-, hlen, -⟩
      · exact absurd rfl hleft
      · exact .inr ⟨r, rest, hp, hop, hlen⟩
    · cases (tick_ignored (s := s.taken rest) hrest).symm.trans hs
      exact absurd rfl hleft
    · cases (tick_ignored (s := (s.taken rest).rxArrive c) hrest).symm.trans hs
      exact absurd rfl hleft
    · exact absurd rfl hleft
    · exact .inl ⟨rest, hp⟩

/-! The awaiting states (R150) -/

/-- Where a step that is no reset may lead from a state: for an awaiting state itself, what one acknowledgement leads to, and
FAILED (R150, R151). -/
def Fsm.forward : Fsm → List Fsm
  | .awaitStartAck => [.awaitStartAck, .awaitDataAck, .awaitEndAck, .failed]
  | .awaitDataAck => [.awaitDataAck, .awaitEndAck, .failed]
  | .awaitEndAck => [.awaitEndAck, .done, .failed]
  | .idle => [.idle]
  | .done => [.done]
  | .failed => [.failed]

theorem Fsm.mem_forward (f : Fsm) : f ∈ f.forward := by cases f <;> decide

theorem Stage.failed_mem_forward (st : Stage) : .failed ∈ st.fsm.forward := by cases st <;> decide

/-- A step of the sequencer leads forward. -/
def GoesForward (op : State → Result) : Prop := ∀ ⦃s t : State⦄, op s = .next t → t.fsm ∈ s.fsm.forward

theorem goesForward_next : GoesForward .next := fun s _ h => by
  cases h
  exact s.fsm.mem_forward

/-- ON_ACK on a FIFO that its own poll finds empty: the state of the next frame, or DONE (R147). -/
theorem goesForward_onAck : GoesForward (onAckWith .next) := by
  intro s t h
  rcases onAckWith_next h with ⟨hf, -, hs⟩ | ⟨hf, -, hs⟩ | ⟨hf, -, hs⟩ | ⟨hf, -, hs⟩ | ⟨hf, rfl⟩
  · rw [hf, (sendEndWith_next_sent hs).1]; decide
  · rw [hf, (sendDataWith_next_sent hs).1]; decide
  · rw [hf, (sendEndWith_next_sent hs).1]; decide
  · rw [hf, (sendDataWith_next_sent hs).1]; decide
  · rw [hf, State.setFsm_fsm]; decide

/-- ATTEMPT_FAILED (R148): the same wait again, or FAILED. -/
theorem GoesForward.attemptFailed {p : State → Result} (hp : GoesForward p) (cause : FailCause) :
    GoesForward (attemptFailedWith p cause) := by
  intro s t h
  obtain ⟨st, hf, ⟨-, hs⟩ | ⟨-, rfl⟩⟩ := attemptFailedWith_next h
  · exact hp (s := s.countRetry.txWrite.startWait) hs
  · rw [hf]
    exact st.failed_mem_forward

/-- The reaction to a reply, on a FIFO that its own poll finds empty (R143). -/
theorem goesForward_react (r : PrefixResult) : GoesForward (reactWith .next r) := by
  intro s t h
  rcases reactWith_next h with ⟨-, hs⟩ | ⟨got, -, hs⟩ | ⟨-, rfl⟩
  · exact goesForward_onAck (s := s.noteOutcome .ack) hs
  · exact goesForward_next.attemptFailed _ (s := (s.logNack s.seq got).noteOutcome .nack) hs
  · exact t.fsm.mem_forward

/-- POLL (R151): at most one acknowledgement. -/
theorem goesForward_poll : GoesForward poll := by
  intro s t h
  rcases poll_next h with ⟨-, rfl⟩ | ⟨-, hs⟩
  · exact t.fsm.mem_forward
  · exact goesForward_react _ (s := s.rxDrop s.rxFifo.length) hs

/-- TICK (R146). -/
theorem goesForward_tick : GoesForward tick := by
  intro s t h
  obtain ⟨-, rfl⟩ | ⟨st, -, ⟨-, hs⟩ | ⟨-, hs⟩⟩ := tick_next h
  · exact t.fsm.mem_forward
  · exact goesForward_poll.attemptFailed _ (s := s.noteOutcome .timeout) hs
  · exact goesForward_poll (s := s.countTick) hs

/-- In an awaiting state SEND_IMAGE is turned away, so a step that is no reset leads forward (R150, R170). -/
theorem step_goesForward {s t : State} (h : step s = .next t) (hreset : ∀ rest, s.pending ≠ .reset :: rest)
    (hbusy : s.fsm.busy = true) : t.fsm ∈ s.fsm.forward := by
  rcases step_cases h with ⟨-, rfl⟩ | ⟨e, rest, hp, hcase⟩
  · exact t.fsm.mem_forward
  · rcases hcase with ⟨r, a, -, -, rfl⟩ | ⟨r, -, -, hs⟩ | ⟨-, hs⟩ | ⟨b, c, -, hs⟩ | ⟨b, -, rfl⟩ | ⟨rfl, -⟩
    · exact s.fsm.mem_forward
    · rcases execSendImage_next hs with ⟨-, a, rfl⟩ | ⟨hrest, -, -⟩
      · exact s.fsm.mem_forward
      · exact absurd hbusy (ne_true_of_eq_false hrest)
    · exact goesForward_tick (s := s.taken rest) hs
    · exact goesForward_tick (s := (s.taken rest).rxArrive c) hs
    · exact s.fsm.mem_forward
    · exact absurd hp (hreset rest)

/-- Settles O56: the three rows of the table. -/
theorem awaitingStatesOnlyGoForward : Obligations.AwaitingStatesOnlyGoForward := by
  intro s t h hreset
  refine ⟨fun hf => ?start, fun hf => ?data, fun hf => ?final⟩
  all_goals
    have hmem := step_goesForward h hreset (by rw [hf]; rfl)
    rwa [hf] at hmem

end Sys2Proof.Machine
end

section
/-! The session's operations (O33 to O35, O40, O42 to O44, O46): a frame is sent by putting the one that ENCODE builds in
flight and running EMIT. SEND_DATA, SEND_END, an accepted SEND_IMAGE and the frames to the peer are all that one rule, with
their own sequence and body. -/

namespace Sys2Proof.Machine

/-! Sending a frame (R123, R144, R171, R173, R175) -/

section
variable {s : State}

/-- What EMIT writes before its poll (R144). -/
theorem State.txWrite_startWait (s : State) :
    s.txWrite.startWait = { s with outputs := s.outputs ++ [.txFrame s.txf.toList], tickCnt := 0 } := rfl

/-- A frame sent is the one ENCODE builds: it is put in flight with the registers of its wait, and EMIT follows; on a FIFO
below the threshold that is all. -/
theorem sendFrame_emits (s : State) (st : Stage) (q : U16) {body : List Byte} (hb : body.length ≤ 240) :
    ∃ u f, (∀ v : State, exec (.encode st.command q body) v = .next { v with answer := .bytes f }) ∧
      u = { s with
        fsm := st.fsm, seq := q, curLen := lengthByte body, retryCnt := 0, txf := u.txf, crc := crc16 (f.take 248) } ∧
      u.txf.toList = f ∧ sendFrame st q body s = exec .emit u ∧
      (s.rxFifo.length < 11 →
        sendFrame st q body s = .next { u with outputs := s.outputs ++ [.txFrame f], tickCnt := 0 }) := by
  have hframe : (s.launch st q body).txf.toList = encodeFrame st.command q body := State.launch_frame s st q hb
  refine ⟨s.launch st q body, encodeFrame st.command q body, execEncode_stage st q hb, ?registers, hframe,
    (exec_emit st.busy_fsm).symm, fun hr => ?quiet⟩
  case registers => rw [encodeFrame_take st.command q hb]; rfl
  case quiet => rw [sendFrame_quiet hr, State.txWrite_startWait, hframe, State.launch_outputs]

theorem exec_sendEnd (s : State) : exec .sendEnd s = sendFrame .final (s.seq + 1) [] s := rfl

/-- SEND_DATA of a chunk of the session sends its bytes (R173). -/
theorem exec_sendData {k : U16} (hk : k.toNat < s.totalPackets.toNat) (ho : 240 * k.toNat < s.payloadLen.toNat) :
    exec (.sendData k) s = sendFrame .data (s.seq + 1) (s.chunkBytes k.toNat) s := sendDataWith_eq k s hk ho

end

/-- Settles O42: the END frame has no body. -/
theorem sendEndEmitsTheEmptyFrame : Obligations.SendEndEmitsTheEmptyFrame := by
  intro s
  obtain ⟨u, f, hencode, hu, htxf, hemit, hquiet⟩ := sendFrame_emits s .final (s.seq + 1) (body := []) (Nat.zero_le 240)
  rw [exec_sendEnd]
  exact ⟨u, f, hencode s, hu, htxf, hemit, hquiet⟩

/-- Settles O40: the DATA frame's body is the chunk. -/
theorem sendDataEmitsTheChunk : Obligations.SendDataEmitsTheChunk := by
  intro s k hk ho
  have hlen := s.chunkBytes_length k.toNat
  obtain ⟨u, f, hencode, hu, htxf, hemit, hquiet⟩ :=
    sendFrame_emits s .data (s.seq + 1) (body := s.chunkBytes k.toNat) (by omega)
  rw [exec_sendData hk ho]
  exact ⟨u, s.chunkBytes k.toNat, f, hlen, s.chunkBytes_read k.toNat, hencode s, hu, htxf, hemit, hquiet⟩

/-! SEND_IMAGE (R170, R171) -/

section
variable {s : State} {n : Nat}

/-- The two bytes of a number as a u16 (R10). -/
theorem bytesLE16_ofNat (m : Nat) : bytesLE16 (BitVec.ofNat 16 m) = [BitVec.ofNat 8 m, BitVec.ofNat 8 (m / 256)] := by
  have hlow : lowByte (BitVec.ofNat 16 m) = BitVec.ofNat 8 m := BitVec.eq_of_toNat_eq (by simp [lowByte])
  have hhigh : highByte (BitVec.ofNat 16 m) = BitVec.ofNat 8 (m / 256) :=
    BitVec.eq_of_toNat_eq (by simp [highByte, Nat.shiftRight_eq_div_pow]; omega)
  rw [bytesLE16, hlow, hhigh]

/-- The body of the START frame of an accepted SEND_IMAGE, byte by byte (R77). -/
theorem startBody_ofNat (id : U16) (m : Nat) :
    startBody id (BitVec.ofNat 16 m)
      = [id.extractLsb' 0 8, id.extractLsb' 8 8, BitVec.ofNat 8 m, BitVec.ofNat 8 (m / 256)] := by
  rw [startBody, bytesLE16_ofNat]
  rfl

/-- The longest payload that is accepted fills the two counters (R7, R26, R27). -/
theorem ofNat_payloadLen_toNat (hn : n ≤ 15728400) : (BitVec.ofNat 24 n).toNat = n := Nat.mod_eq_of_lt (by omega)

theorem ofNat_totalPackets_toNat (hn : n ≤ 15728400) : (BitVec.ofNat 16 ((n + 239) / 240)).toNat = (n + 239) / 240 :=
  Nat.mod_eq_of_lt (by omega)

/-- In a session PAYLOAD holds the bytes of SEND_IMAGE's argument below its length, and none beyond (R50, R61). -/
theorem State.payloadByte?_of_ofCells {cells : List Host.Cell} (hp : s.payload = Memory.ofCells n cells)
    (hl : s.payloadLen.toNat = n) (a : Nat) :
    s.payloadByte? a = if a < n then some (Memory.read cells a) else none := by
  rw [State.payloadByte?, hl, hp]
  split
  · rw [Memory.read_ofCells n cells a ‹_›]
  · rfl

/-- SEND_IMAGE outside an awaiting state, with a payload that 65535 chunks hold, writes the session's registers and sends
START (R171). -/
theorem exec_sendImage_accepted (id : U16) (cells : List Host.Cell) (hb : s.fsm.busy = false) (hn : n ≤ 15728400) :
    exec (.sendImage id n cells) s
      = sendFrame .start 0 [id.extractLsb' 0 8, id.extractLsb' 8 8, BitVec.ofNat 8 ((n + 239) / 240),
          BitVec.ofNat 8 ((n + 239) / 240 / 256)] ((s.beginSession id n cells).returning .accepted) := by
  show execSendImage id n cells s = _
  rw [execSendImage, if_neg (ne_true_of_eq_false hb), if_neg (Nat.not_lt.mpr hn), ← startBody_ofNat]
  rfl

end

/-- Settles O43: the START frame is sent from the registers that the session begins with. -/
theorem sendImageStartsASession : Obligations.SendImageStartsASession := by
  intro s id n cells hb hn
  obtain ⟨u, f, hencode, hu, htxf, hemit, hquiet⟩ := sendFrame_emits ((s.beginSession id n cells).returning .accepted)
    .start 0 (body := [id.extractLsb' 0 8, id.extractLsb' 8 8, BitVec.ofNat 8 ((n + 239) / 240),
      BitVec.ofNat 8 ((n + 239) / 240 / 256)]) (show 4 ≤ 240 by decide)
  have hpayload : u.payload = Memory.ofCells n cells := congrArg State.payload hu
  have hlen : u.payloadLen.toNat = n := (congrArg (·.payloadLen.toNat) hu).trans (ofNat_payloadLen_toNat hn)
  have htotal : u.totalPackets.toNat = (n + 239) / 240 :=
    (congrArg (·.totalPackets.toNat) hu).trans (ofNat_totalPackets_toNat hn)
  rw [exec_sendImage_accepted id cells hb hn]
  refine ⟨u, f, hencode s, ?registers, htxf, hlen, htotal, fun a ha => ?inside, fun a ha => ?outside, hemit, hquiet⟩
  case registers => rw [hpayload]; exact hu
  case inside => rw [State.payloadByte?_of_ofCells hpayload hlen, if_pos ha]
  case outside => rw [State.payloadByte?_of_ofCells hpayload hlen, if_neg (Nat.not_lt.mpr ha)]

/-- Settles O44: the two tests of SEND_IMAGE in their order. -/
theorem sendImageTurnedAwayChangesNothing : Obligations.SendImageTurnedAwayChangesNothing := by
  intro s id n cells
  exact ⟨fun hb => if_pos hb, fun hb hn => (if_neg (ne_true_of_eq_false hb)).trans (if_pos hn)⟩

/-! ON_ACK (R172, R174, R176) -/

section
variable {s : State}

theorem exec_sendEnd_quiet (hr : s.rxFifo.length < 11) :
    exec .sendEnd s = .next (s.launch .final (s.seq + 1) []).txWrite.startWait :=
  (exec_sendEnd s).trans (sendFrame_quiet hr _ _ _)

theorem exec_sendData_quiet {k : U16} (hk : k.toNat < s.totalPackets.toNat) (ho : 240 * k.toNat < s.payloadLen.toNat)
    (hr : s.rxFifo.length < 11) :
    exec (.sendData k) s = .next (s.launch .data (s.seq + 1) (s.chunkBytes k.toNat)).txWrite.startWait :=
  (exec_sendData hk ho).trans (sendFrame_quiet hr _ _ _)

/-- A session that has packets has a first chunk with a first byte (R27). -/
theorem packets_payload_pos (hp : s.totalPackets.toNat = packetsFor s.payloadLen.toNat) (h0 : s.totalPackets ≠ 0) :
    0 < s.totalPackets.toNat ∧ 0 < s.payloadLen.toNat := by
  have hpos : 0 < s.totalPackets.toNat := Nat.pos_of_ne_zero fun h => h0 (BitVec.eq_of_toNat_eq h)
  simp only [packetsFor, Config.chunk] at hp
  omega

/-- Confirming a DATA frame of a session wraps neither counter (R174, R39 item 2). -/
theorem SessionInv.confirmChunk_counts (h : SessionInv s) (hf : s.fsm = .awaitDataAck) :
    s.confirmChunk.chunkIdx.toNat = s.chunkIdx.toNat + 1 ∧
      s.confirmChunk.sentBytes.toNat = s.sentBytes.toNat + s.curLen.toNat := by
  obtain ⟨hidx, -, hbytes, -, -, hcur, -⟩ := h.data hf
  have hcount := s.totalPackets.isLt
  rw [State.confirmChunk_chunkIdx, State.confirmChunk_sentBytes]
  exact ⟨by bv_omega, by bv_omega⟩

end

/-- Settles O33: the empty session's END frame, or the first chunk's DATA frame. -/
theorem ackOfStartSendsFirstFrame : Obligations.AckOfStartSendsFirstFrame := by
  intro s hf
  refine ⟨onAckWith_start_empty hf, onAckWith_start hf, fun hp hr => ?completes⟩
  rw [exec_onAck]
  by_cases h0 : s.totalPackets = 0
  · exact ⟨_, (onAckWith_start_empty hf h0).trans (exec_sendEnd_quiet hr), rfl, rfl, rfl, (if_pos h0).symm, rfl⟩
  · obtain ⟨hk, ho⟩ := packets_payload_pos hp h0
    exact ⟨_, (onAckWith_start hf h0).trans (exec_sendData_quiet hk ho hr), rfl, rfl, rfl, (if_neg h0).symm, rfl⟩

/-- Settles O34: the chunk is confirmed, and the END frame or the next chunk's DATA frame goes out. -/
theorem ackOfDataCountsThenSendsNext : Obligations.AckOfDataCountsThenSendsNext := by
  intro s hf
  refine ⟨onAckWith_last hf, onAckWith_more hf, fun hinv hr => ?completes⟩
  obtain ⟨hidx, hbytes⟩ := hinv.confirmChunk_counts hf
  have hbetween := hinv.dataAcked hf
  rw [exec_onAck]
  by_cases hl : s.chunkIdx + 1 = s.totalPackets
  · exact ⟨_, (onAckWith_last hf hl).trans (exec_sendEnd_quiet hr), hidx, hbytes, rfl⟩
  · have hk : s.confirmChunk.chunkIdx.toNat < s.confirmChunk.totalPackets.toNat :=
      lt_of_le_of_ne hbetween.chunks fun he => hl (BitVec.eq_of_toNat_eq he)
    exact ⟨_, (onAckWith_more hf hl).trans (exec_sendData_quiet hk (hbetween.chunk_inside hk) hr), hidx, hbytes, rfl⟩

/-- Settles O35: with END in flight every chunk is already confirmed (R39 item 3). -/
theorem ackOfEndIsDone : Obligations.AckOfEndIsDone := by
  intro s hf
  refine ⟨onAckWith_end hf, rfl, fun hinv => ?_⟩
  obtain ⟨⟨-, -, hbytes⟩, -⟩ := hinv.final hf
  exact hbytes

/-! Frames to the peer (R180 to R182, R84) -/

/-- The lengths the sequencer sends: START 4, DATA 1 to 240, END 0 (R77 to R79). -/
theorem lengthSent_start {len : Byte} : lengthSent cmdStart len = true ↔ 4 ≤ len.toNat ∧ len.toNat ≤ 4 :=
  decide_eq_true_iff.trans (by omega)

theorem lengthSent_data {len : Byte} : lengthSent cmdData len = true ↔ 1 ≤ len.toNat ∧ len.toNat ≤ 240 :=
  decide_eq_true_iff

theorem lengthSent_end {len : Byte} : lengthSent cmdEnd len = true ↔ 0 ≤ len.toNat ∧ len.toNat ≤ 0 :=
  decide_eq_true_iff.trans (by omega)

/-- Each of the three rows is `transmit` for its stage, at the lengths of its command. -/
theorem sentRow_transmits {s : State} {q r : U16} {len : Byte} {pl : List Byte} {st : Stage} {cmd : Byte} {lo hi : Nat}
    {i : Instr} (h : (st, cmd, lo, hi, i) ∈ [(Stage.start, 1#8, 4, 4, Instr.startFrame .toPeer q len pl r),
      (Stage.data, 2#8, 1, 240, Instr.dataFrame .toPeer q len pl r),
      (Stage.final, 3#8, 0, 0, Instr.endFrame .toPeer q len pl r)]) :
    cmd = st.command ∧ exec i s = transmit st q len pl s ∧
      (lengthSent st.command len = true ↔ lo ≤ len.toNat ∧ len.toNat ≤ hi) := by
  simp only [List.mem_cons, Prod.mk.injEq, List.not_mem_nil, or_false] at h
  rcases h with ⟨rfl, rfl, rfl, rfl, rfl⟩ | ⟨rfl, rfl, rfl, rfl, rfl⟩ | ⟨rfl, rfl, rfl, rfl, rfl⟩
  · exact ⟨rfl, rfl, lengthSent_start⟩
  · exact ⟨rfl, rfl, lengthSent_data⟩
  · exact ⟨rfl, rfl, lengthSent_end⟩

/-- The length byte of a body cut to it from the 240 bytes of a payload field (R73, R120). -/
theorem lengthByte_take {pl : List Byte} {len : Byte} (hpl : pl.length = 240) (hlen : len.toNat ≤ 240) :
    lengthByte (pl.take len.toNat) = len := by
  rw [lengthByte, List.length_take, hpl, Nat.min_eq_left hlen, BitVec.ofNat_toNat, BitVec.setWidth_eq]

/-- Settles O46: at the lengths of its command the frame's body is sent; at any other the frame is refused. -/
theorem sentFramesGoOutAndAwait : Obligations.SentFramesGoOutAndAwait := by
  intro s q len pl r st cmd lo hi i hrow
  obtain ⟨rfl, hexec, hsent⟩ := sentRow_transmits (s := s) hrow
  rw [hexec, transmit]
  refine ⟨fun hlen hpl => ?sent, fun hlen => if_neg (mt hsent.mp hlen)⟩
  have h240 : len.toNat ≤ 240 := lengthSent_le (hsent.mpr hlen)
  obtain ⟨u, f, hencode, hu, htxf, hemit, hquiet⟩ :=
    sendFrame_emits s st q (body := pl.take len.toNat) ((List.length_take_le _ _).trans h240)
  rw [lengthByte_take hpl h240] at hu
  rw [if_pos (hsent.mpr hlen)]
  exact ⟨u, f, hencode s, hu, htxf, hemit, hquiet⟩

end Sys2Proof.Machine
end

section
/-! The wire commands received (O47 to O49): in every state a frame that reaches the block is an arrival of its bytes and a
tick, and on an empty FIFO below the wait's limit the poll of that tick reacts to the frame and to nothing else. -/

namespace Sys2Proof.Machine

section
variable {s : State} {st : Stage}

/-- A frame received is an arrival of its bytes and a tick (assumption log 2). -/
theorem exec_of_encode_toBlock {i : Instr} {b : List Byte} (h : encode i = some (.frame .toBlock b)) (s : State) :
    exec i s = exec .tick { s with rxFifo := s.rxFifo ++ b } := by
  cases i with
  | startFrame | dataFrame | endFrame | ackFrame | nackFrame => cases h; rfl
  | _ => cases h

/-- On an empty FIFO, below the wait's limit, the tick that follows an arrival counts, consumes the bytes and reacts to them
(R143, R146). -/
theorem exec_tick_arrived {b : List Byte} (hf : s.fsm = st.fsm) (hl : s.tickCnt.toNat + 1 ≠ st.limit)
    (hrx : s.rxFifo = []) (hb : 11 ≤ b.length) :
    exec .tick { s with rxFifo := s.rxFifo ++ b } = reactWith poll (prefixOf b s.seq) s.countTick := by
  have hfifo : (s.rxArrive b).countTick.rxFifo = b := by simp [hrx]
  have hdrop : (s.rxArrive b).countTick.rxDrop b.length = s.countTick := by
    apply State.ext
    all_goals simp [hrx]
  calc exec .tick { s with rxFifo := s.rxFifo ++ b }
      = poll (s.rxArrive b).countTick := tick_below (s := s.rxArrive b) hf hl
    _ = reactWith .next (prefixOf b s.seq) s.countTick := by
      rw [poll_read (by rwa [hfifo]) rfl, hfifo, hdrop]
      rfl
    _ = reactWith poll (prefixOf b s.seq) s.countTick :=
      reactWith_congr (fun v hv => (poll_quiet (by simp [hv])).symm) (by simpa using hrx) _

/-- A received frame's reaction, by its command and its sequence alone (R142, R143). -/
theorem exec_received_reacts {i : Instr} {c len : Byte} {q r : U16} {pl : List Byte}
    (hi : encode i = some (.frame .toBlock (frameImage c q len pl r))) (hf : s.fsm = st.fsm)
    (hl : s.tickCnt.toNat + 1 ≠ st.limit) (hrx : s.rxFifo = []) (hpl : pl.length = 240) :
    exec i s = reactWith poll (prefixOf (frameImage c q len pl r) s.seq) s.countTick :=
  (exec_of_encode_toBlock hi s).trans
    (exec_tick_arrived hf hl hrx (by rw [frameImage_length, hpl]; decide))

end

/-! What PARSE_PREFIX makes of a frame (R142) -/

section
variable {c len : Byte} {q r expected : U16} {pl : List Byte}

theorem prefixOf_frame_other (hack : c ≠ cmdAck) (hnack : c ≠ cmdNack) :
    prefixOf (frameImage c q len pl r) expected = .other := by
  obtain ⟨-, hc, -⟩ := frameImage_fields c q len pl r
  rw [prefixOf, hc, if_neg fun h => hack h.2.1, if_neg fun h => hnack h.2]

theorem prefixOf_frame_ack : prefixOf (frameImage cmdAck q len pl r) q = .ack := by
  obtain ⟨hm, hc, hq, -⟩ := frameImage_fields cmdAck q len pl r
  exact prefixOf_eq_ack_iff.mpr ⟨⟨hm, hc⟩, hq.symm⟩

theorem prefixOf_frame_stale_ack (hq : q ≠ expected) : prefixOf (frameImage cmdAck q len pl r) expected = .other := by
  obtain ⟨-, hc, hseq, -⟩ := frameImage_fields cmdAck q len pl r
  exact prefixOf_stale_ack hc fun h => hq (hseq.symm.trans h.symm)

theorem prefixOf_frame_nack : prefixOf (frameImage cmdNack q len pl r) expected = .nack q := by
  obtain ⟨hm, hc, hq, -⟩ := frameImage_fields cmdNack q len pl r
  exact prefixOf_eq_nack_iff.mpr ⟨⟨hm, hc⟩, hq.symm⟩

end

/-! START, DATA and END (R180 to R182) -/

/-- A received frame that is no reply only counts its tick (R84). -/
theorem exec_received_other {s : State} {st : Stage} {i : Instr} {c len : Byte} {q r : U16} {pl : List Byte}
    (hi : encode i = some (.frame .toBlock (frameImage c q len pl r))) (hack : c ≠ cmdAck) (hnack : c ≠ cmdNack)
    (hf : s.fsm = st.fsm) (hl : s.tickCnt.toNat + 1 ≠ st.limit) (hrx : s.rxFifo = []) (hpl : pl.length = 240) :
    exec i s = .next { s with tickCnt := s.tickCnt + 1 } := by
  rw [exec_received_reacts hi hf hl hrx hpl, prefixOf_frame_other hack hnack]
  rfl

/-- Settles O47: the three commands are neither ACK's nor NACK's. -/
theorem receivedStartDataEndAreOtherContent : Obligations.ReceivedStartDataEndAreOtherContent := by
  intro s st q len pl r hpl
  refine ⟨fun hf hl hrx => ⟨?start, ?data, ?final⟩, fun i hi => ?arrival⟩
  case start => exact exec_received_other (c := cmdStart) rfl (by decide) (by decide) hf hl hrx hpl
  case data => exact exec_received_other (c := cmdData) rfl (by decide) (by decide) hf hl hrx hpl
  case final => exact exec_received_other (c := cmdEnd) rfl (by decide) (by decide) hf hl hrx hpl
  case arrival =>
    have hencode : ∃ b, encode i = some (.frame .toBlock b) := by
      simp only [List.mem_cons, List.not_mem_nil, or_false] at hi
      rcases hi with rfl | rfl | rfl <;> exact ⟨_, rfl⟩
    obtain ⟨b, hb⟩ := hencode
    have hexec := exec_of_encode_toBlock hb s
    exact ⟨b, hb, hexec, fun hrest => hexec.trans (tick_ignored (s := s.rxArrive b) hrest)⟩

/-! ACK (R183, R154) -/

/-- Settles O48: the awaited sequence is ON_ACK's case, any other is other content. -/
theorem ackFrameConfirmsItsSequenceOnly : Obligations.AckFrameConfirmsItsSequenceOnly := by
  intro s q len pl r hpl
  refine ⟨⟨_, rfl, exec_of_encode_toBlock rfl s⟩, fun st hf hl hrx => ?reply⟩
  have hreact : exec (.ackFrame q len pl r) s = reactWith poll (prefixOf (frameImage cmdAck q len pl r) s.seq) s.countTick :=
    exec_received_reacts rfl hf hl hrx hpl
  have hconfirms : q = s.seq → exec (.ackFrame q len pl r) s
      = exec .onAck { s with tickCnt := s.tickCnt + 1, lastOutcome := some .ack } := by
    rintro rfl
    rw [hreact, prefixOf_frame_ack]
    rfl
  refine ⟨hconfirms, fun hq hfinal => ?done, fun hq => ?stale⟩
  case done => subst hfinal; exact (hconfirms hq).trans (onAckWith_end hf)
  case stale => rw [hreact, prefixOf_frame_stale_ack hq]; rfl

/-! NACK (R184, R153) -/

section
variable {s : State} {st : Stage} {len : Byte} {q r : U16} {pl : List Byte}

/-- A NACK frame is ATTEMPT_FAILED of the counted tick, both sequences logged (R148, R153). -/
theorem exec_nackFrame (hf : s.fsm = st.fsm) (hl : s.tickCnt.toNat + 1 ≠ st.limit) (hrx : s.rxFifo = [])
    (hpl : pl.length = 240) :
    exec (.nackFrame q len pl r) s = attemptFailed .nack
      { s with
        tickCnt := s.tickCnt + 1, lastOutcome := some .nack, outputs := s.outputs ++ [.logNack s.seq q] } := by
  rw [exec_received_reacts (c := cmdNack) rfl hf hl hrx hpl, prefixOf_frame_nack]
  rfl

/-- With budget left the frame goes out again (R148). -/
theorem exec_nackFrame_resends (hf : s.fsm = st.fsm) (hl : s.tickCnt.toNat + 1 ≠ st.limit) (hrx : s.rxFifo = [])
    (hpl : pl.length = 240) (hc : s.retryCnt.toNat < st.budget) :
    exec (.nackFrame q len pl r) s = .next { s with
      retryCnt := s.retryCnt + 1, tickCnt := 0, lastOutcome := some .nack,
      outputs := s.outputs ++ [.logNack s.seq q, .txFrame s.txf.toList] } := by
  rw [exec_nackFrame hf hl hrx hpl, attemptFailed_quiet _ (by exact hf) (by simp [hrx]), if_pos (by exact hc),
    State.txWrite_startWait, State.countRetry_outputs, List.append_assoc]
  rfl

/-- With the budget spent the session fails, with its index for a DATA frame (R149). -/
theorem exec_nackFrame_fails (hf : s.fsm = st.fsm) (hl : s.tickCnt.toNat + 1 ≠ st.limit) (hrx : s.rxFifo = [])
    (hpl : pl.length = 240) (hc : st.budget ≤ s.retryCnt.toNat) :
    exec (.nackFrame q len pl r) s = .next { s with
      fsm := .failed, failStage := some st, failIndex := if st = .data then s.seq else 0, failCause := some .nack,
      tickCnt := s.tickCnt + 1, lastOutcome := some .nack, outputs := s.outputs ++ [.logNack s.seq q] } := by
  rw [exec_nackFrame hf hl hrx hpl]
  exact attemptFailedWith_fail hf hc

end

/-- The two stages without a budget wait 200 ticks (R141). -/
theorem Stage.limit_budget_of_ne_data {st : Stage} (h : st ≠ .data) : st.limit = 200 ∧ st.budget = 0 := by
  cases st with
  | start | final => exact ⟨rfl, rfl⟩
  | data => exact absurd rfl h

/-- Settles O49: a NACK spends a retry of the stage's budget, and START and END have none. -/
theorem nackFrameSpendsARetry : Obligations.NackFrameSpendsARetry := by
  intro s q len pl r hpl
  refine ⟨⟨_, rfl, exec_of_encode_toBlock rfl s⟩, fun hrx hf hl hc => ?resend, fun hrx hf hl hc => ?spent,
    fun st hrx hf hne hl => ?control⟩
  case resend => exact exec_nackFrame_resends (st := .data) hf hl hrx hpl hc
  case spent => exact exec_nackFrame_fails (st := .data) hf hl hrx hpl (by rw [hc]; decide)
  case control =>
    obtain ⟨hlimit, hbudget⟩ := Stage.limit_budget_of_ne_data hne
    rw [exec_nackFrame_fails hf (by rwa [hlimit]) hrx hpl (by rw [hbudget]; exact Nat.zero_le _), if_neg hne]

end Sys2Proof.Machine
end

section
/-! Reset and hazards (O21, O26, O45, O57): a hardware reset acts in any state, a poll looks at the first bytes of its read
alone, a wait is moved by ticks alone, and an acknowledgement that waits in the FIFO is seen by the very step that emits its
frame. -/

namespace Sys2Proof.Machine

/-! Hardware reset (R230, R231) -/

/-- Settles O21: the reset event is the hardware reset of the state once the event is taken, and each of its registers is one
of the reset state. -/
theorem hardwareResetAbandonsSilently : Obligations.HardwareResetAbandonsSilently := by
  intro s rest h
  refine ⟨(s.taken rest).hardReset, step_reset h, ?registers⟩
  case registers => simp

/-! What a poll looks at (R234) -/

section
variable {b c : List Byte} {n i : Nat}

theorem byteAt_eq_of_take_eq (h : b.take n = c.take n) (hi : i < n) : byteAt b i = byteAt c i := by
  rw [byteAt, byteAt, List.getD_eq_getElem?_getD, List.getD_eq_getElem?_getD, ← List.getElem?_take_of_lt hi, h,
    List.getElem?_take_of_lt hi]

/-- PARSE_PREFIX examines the first seven bytes and no others (R142). -/
theorem prefixOf_eq_of_take_eq (h : b.take 7 = c.take 7) (q : U16) : prefixOf b q = prefixOf c q := by
  have hbyte {i : Nat} (hi : i < 7) : byteAt b i = byteAt c i := byteAt_eq_of_take_eq h hi
  have hheader : headerOf b = headerOf c := by
    rw [headerOf, headerOf, hbyte (i := 0) (by decide), hbyte (i := 1) (by decide), hbyte (i := 2) (by decide),
      hbyte (i := 3) (by decide)]
  have hsequence : u16At b 5 = u16At c 5 := by
    rw [u16At, u16At, hbyte (i := 5) (by decide), hbyte (i := 5 + 1) (by decide)]
  rw [prefixOf, prefixOf, hheader, hsequence, hbyte (i := 4) (by decide)]

end

/-- A poll that reads reacts to what PARSE_PREFIX makes of the read: of the bytes themselves nothing is left (R143). -/
theorem poll_reacts {s : State} (h : 11 ≤ s.rxFifo.length) :
    poll s = reactWith .next (prefixOf s.rxFifo s.seq) { s with rxFifo := [] } := by
  rw [poll_read h rfl, State.rxDrop_all]

/-- Settles O26: both polls leave an empty FIFO and react to the same reply. -/
theorem pollIgnoresBytesBehindThePrefix : Obligations.PollIgnoresBytesBehindThePrefix := by
  intro s b c hbusy hb hc htake
  rw [exec_poll (s := { s with rxFifo := b }) hbusy, exec_poll (s := { s with rxFifo := c }) hbusy,
    poll_reacts (s := { s with rxFifo := b }) hb, poll_reacts (s := { s with rxFifo := c }) hc]
  show reactWith _ (prefixOf b s.seq) _ = reactWith _ (prefixOf c s.seq) _
  rw [prefixOf_eq_of_take_eq htake]

/-! What moves a wait (R236, R237) -/

/-- Settles O57, by the event that the step presents: in an awaiting state every host request, SEND_IMAGE too, only hands back
a value, and an arrival only fills the FIFO. -/
theorem onlyTicksEndAWait : Obligations.OnlyTicksEndAWait := by
  intro s t h hbusy htick hframe hreset
  rcases step_cases h with ⟨-, rfl⟩ | ⟨e, rest, hp, hcase⟩
  · rfl
  · rcases hcase with ⟨r, a, -, -, rfl⟩ | ⟨r, -, -, hs⟩ | ⟨rfl, -⟩ | ⟨b, c, rfl, -⟩ | ⟨b, -, rfl⟩ | ⟨rfl, -⟩
    · rfl
    · rcases execSendImage_next hs with ⟨-, a, rfl⟩ | ⟨hrest, -, -⟩
      · rfl
      · exact absurd hbusy (ne_true_of_eq_false hrest)
    · exact absurd hp (htick rest)
    · exact absurd hp (hframe b rest)
    · rfl
    · exact absurd hp (hreset rest)

/-! An acknowledgement that waits for its frame (R238, R239) -/

section
variable {s : State}

/-- A frame sent while its acknowledgement stands in the FIFO is the one ENCODE builds, and the poll of its own emission
confirms it (R144, R238). -/
theorem sendFrame_acked (st : Stage) (q : U16) {body : List Byte} (hb : body.length ≤ 240) (h11 : 11 ≤ s.rxFifo.length)
    (hack : prefixOf s.rxFifo q = .ack) :
    ∃ f, (∀ v : State, exec (.encode st.command q body) v = .next { v with answer := .bytes f }) ∧
      sendFrame st q body s = onAckWith poll
        { s with
          fsm := st.fsm, seq := q, curLen := lengthByte body, retryCnt := 0, tickCnt := 0, txf := frameBuffer f,
          crc := crc16 (f.take 248), rxFifo := [], lastOutcome := some .ack, outputs := s.outputs ++ [.txFrame f] } := by
  have hemit : sendFrame st q body s = poll (s.launch st q body).txWrite.startWait := rfl
  refine ⟨encodeFrame st.command q body, execEncode_stage st q hb, ?confirmed⟩
  rw [hemit, poll_ack (by exact h11) (by exact hack), State.launch_sent s st q hb, encodeFrame_take st.command q hb]

/-- The frame after START: the first chunk, or for an empty session the END frame, whose body is that chunk of no bytes
(R172). -/
theorem onAck_start_sends (hf : s.fsm = .awaitStartAck) (hp : s.totalPackets.toNat = packetsFor s.payloadLen.toNat) :
    onAckWith poll s
      = sendFrameWith poll (if s.payloadLen.toNat = 0 then .final else .data) (s.seq + 1) (s.chunkBytes 0) s := by
  by_cases h0 : s.payloadLen.toNat = 0
  · have hnone : s.totalPackets = 0 := BitVec.eq_of_toNat_eq (by rw [hp, h0]; rfl)
    have hempty : s.chunkBytes 0 = [] := List.eq_nil_of_length_eq_zero (by rw [State.chunkBytes_length, h0]; rfl)
    rw [onAckWith_start_empty hf hnone, if_pos h0, hempty, sendEndWith]
  · have hsome : s.totalPackets ≠ 0 := fun hz => by
      have hnone : s.totalPackets.toNat = 0 := by rw [hz]; rfl
      simp only [packetsFor, Config.chunk] at hp
      omega
    obtain ⟨hk, ho⟩ := packets_payload_pos hp hsome
    rw [onAckWith_start hf hsome, sendDataWith_eq 0 s hk ho, if_neg h0]
    rfl

/-- The frame after START as it goes out on an empty FIFO (R172, R173, R175). -/
theorem onAck_start_sent (hf : s.fsm = .awaitStartAck) (hr : s.rxFifo = [])
    (hp : s.totalPackets.toNat = packetsFor s.payloadLen.toNat) :
    ∃ (t : State) (f : List Byte) (st : Stage), onAckWith poll s = .next t ∧
      st = (if s.payloadLen.toNat = 0 then .final else .data) ∧
      (∀ v : State, exec (.encode st.command (s.seq + 1) (s.chunkBytes 0)) v = .next { v with answer := .bytes f }) ∧
      t = { s with
        fsm := st.fsm, seq := s.seq + 1, curLen := lengthByte (s.chunkBytes 0), retryCnt := 0, tickCnt := 0,
        txf := t.txf, crc := t.crc, outputs := s.outputs ++ [.txFrame f] } ∧
      t.txf.toList = f := by
  have hlen := s.chunkBytes_length 0
  rw [onAck_start_sends hf hp]
  generalize (if s.payloadLen.toNat = 0 then Stage.final else Stage.data) = st
  obtain ⟨t, f, hsent, hencode, ht, htxf⟩ :=
    sendFrameWith_sent st (s.seq + 1) (body := s.chunkBytes 0) (by omega) hr
  exact ⟨t, f, st, hsent, rfl, hencode, ht, htxf⟩

/-- SEND_IMAGE while an acknowledgement of sequence 0 stands in the FIFO: the session's registers, the START frame on the TX
stream, and ON_ACK of what the read leaves (R171, R238). -/
theorem exec_sendImage_acked (id : U16) {n : Nat} (cells : List Host.Cell) (hb : s.fsm.busy = false) (hn : n ≤ 15728400)
    (h11 : 11 ≤ s.rxFifo.length) (hack : prefixOf s.rxFifo 0 = .ack) :
    ∃ u f, exec (.sendImage id n cells) s = onAckWith poll u ∧
      exec (.encode 1#8 0 [id.extractLsb' 0 8, id.extractLsb' 8 8, BitVec.ofNat 8 ((n + 239) / 240),
        BitVec.ofNat 8 ((n + 239) / 240 / 256)]) s = .next { s with answer := .bytes f } ∧
      u = { s with
        fsm := .awaitStartAck, seq := 0, imageId := id, payloadLen := BitVec.ofNat 24 n,
        totalPackets := BitVec.ofNat 16 ((n + 239) / 240), chunkIdx := 0, sentBytes := 0, retryCnt := 0, tickCnt := 0,
        curLen := 4, lastOutcome := some .ack, failStage := none, failIndex := 0, failCause := none,
        txf := frameBuffer f, crc := crc16 (f.take 248), payload := Memory.ofCells n cells, rxFifo := [],
        answer := .accepted, outputs := s.outputs ++ [.txFrame f] } := by
  obtain ⟨f, hencode, hacked⟩ := sendFrame_acked (s := (s.beginSession id n cells).returning .accepted) .start 0
    (body := [id.extractLsb' 0 8, id.extractLsb' 8 8, BitVec.ofNat 8 ((n + 239) / 240),
      BitVec.ofNat 8 ((n + 239) / 240 / 256)]) (show 4 ≤ 240 by decide) h11 hack
  exact ⟨_, f, (exec_sendImage_accepted id cells hb hn).trans hacked, hencode s, rfl⟩

end

/-- Settles O45: the poll of the START frame's emission confirms it, and the frame after it is sent on the FIFO which that poll
has emptied. -/
theorem staleAckConfirmsStartAtOnce : Obligations.StaleAckConfirmsStartAtOnce := by
  intro s id n cells hbusy hn h11 hack
  obtain ⟨u, f, hstart, hencode, hu⟩ := exec_sendImage_acked id cells hbusy hn h11 hack
  have hlen : u.payloadLen.toNat = n := (congrArg (·.payloadLen.toNat) hu).trans (ofNat_payloadLen_toNat hn)
  have htotal : u.totalPackets.toNat = packetsFor u.payloadLen.toNat := by
    rw [hlen]
    exact (congrArg (·.totalPackets.toNat) hu).trans (ofNat_totalPackets_toNat hn)
  have hchunk := u.chunkBytes_length 0
  have hseq : u.seq + 1 = 1 := by rw [hu]; rfl
  obtain ⟨t, g, st, hsent, hst, hnext, ht, htxf⟩ :=
    onAck_start_sent (congrArg State.fsm hu) (congrArg State.rxFifo hu) htotal
  rw [hseq] at hnext ht
  have hfsm : t.fsm = st.fsm := congrArg State.fsm ht
  have hcur : t.curLen = lengthByte (u.chunkBytes 0) := congrArg State.curLen ht
  have hpayload : t.payload = Memory.ofCells n cells := (congrArg State.payload ht).trans (congrArg State.payload hu)
  have hlen' : t.payloadLen.toNat = n := (congrArg (·.payloadLen.toNat) ht).trans hlen
  refine ⟨t, f, g, hstart.trans hsent, hencode, fun h0 => ?empty, fun hpos => ?chunk, ?registers, htxf, hlen',
    fun a ha => ?byte⟩
  case empty =>
    rw [if_pos (hlen.trans h0)] at hst
    subst hst
    have hnil : u.chunkBytes 0 = [] := List.eq_nil_of_length_eq_zero (by omega)
    rw [hnil] at hnext hcur
    exact ⟨hnext s, hfsm, hcur⟩
  case chunk =>
    rw [if_neg (by omega)] at hst
    subst hst
    refine ⟨u.chunkBytes 0, by omega, fun i hi => ?_, hnext s, hfsm, hcur ▸ lengthByte_toNat (by omega)⟩
    have hread := u.chunkBytes_read 0 i hi
    rw [State.payloadByte?_of_ofCells (congrArg State.payload hu) hlen, if_pos (by omega), Nat.mul_zero, Nat.zero_add,
      Option.some_inj] at hread
    exact hread.symm
  case registers =>
    have hout : u.outputs ++ [Output.txFrame g] = s.outputs ++ [.txFrame f, .txFrame g] := by
      rw [hu, List.append_assoc]; rfl
    rw [hout] at ht
    rw [hfsm, hcur, hpayload]
    subst hu
    exact ht
  case byte => rw [State.payloadByte?_of_ofCells hpayload hlen', if_pos ha]

end Sys2Proof.Machine
end
